-- ==== Sys2Proof/Word.lean ====
section
/-! DEFINITION. The words of the block: what the spec moves as bits, and how wide it says each is (00_scope.md R6). -/

namespace Sys2Proof

/-- Eight bits: every access in every space moves exactly one byte (20_memory.md R68). -/
abbrev Byte := BitVec 8

/-- A CPU address, 16 bits (R6, R60). -/
abbrev Addr := BitVec 16

/-- A PPU address, 14 bits: the low 14 bits of `v` (R60, R65). -/
abbrev PpuAddr := BitVec 14

/-- The value of a ScrollRegister, 15 bits: fine Y, nametable, coarse Y, coarse X (30_encoding.md R100). -/
abbrev Scroll := BitVec 15

/-- A command word, 32 bits: `op`, `sub`, `a`, `d` (30_encoding.md R91). -/
abbrev Command := BitVec 32

/-- A FrameSink colour, `COLOR_BITS` = 24 bits (00_scope.md R8, 45_collaborator_ports.md R265). -/
abbrev Colour := BitVec 24

end Sys2Proof
end

