-- ==== Sys2Proof/Config.lean ====
section
/-! DEFINITION. What is fixed for the machine: the sizes and timing constants the source gives (00_scope.md R6, R7), the
parameters it leaves open with the value the spec takes (R8), and the free values: the answers of the two
collaborators that the block can only ask (45_collaborator_ports.md R251, R253). -/

namespace Sys2Proof

/-- The four calls the block makes on the mapper (45_collaborator_ports.md R250), with their operands. -/
inductive MapperCall where
  | readPrg (a : Addr)
  | writePrg (a : Addr) (b : Byte)
  | readChr (a : PpuAddr)
  | writeChr (a : PpuAddr) (b : Byte)
deriving DecidableEq, Repr

/-- The two calls the block makes on the input device (45_collaborator_ports.md R253). -/
inductive InputCall where
  | read
  | write (b : Byte)
deriving DecidableEq, Repr

/-! ### Sizes (R6) -/

/-- System RAM, bytes. -/
def Config.ramSize : Nat := 2048

/-- Object attribute memory, bytes. -/
def Config.oamSize : Nat := 256

/-- Secondary OAM, bytes. -/
def Config.secondaryOamSize : Nat := 32

/-- The VRAM array, bytes. -/
def Config.vramSize : Nat := 0x4000

/-- Bytes of one OAM DMA: "256 sequential (bus read, PPU OAM-data write) pairs" (44_bus_dma_tick_irq.md R231). -/
def Config.dmaLength : Nat := 256

/-! ### Timing (R7) -/

/-- `DOTS`: dots per scanline. -/
def Config.dots : Nat := 341

/-- `LINES`: scanlines per frame. -/
def Config.lines : Nat := 262

/-- `PRERENDER`: the pre-render scanline. -/
def Config.prerender : Nat := 261

/-- The last visible scanline. -/
def Config.lastVisible : Nat := 239

/-- The scanline whose dot 1 enters vertical blank. -/
def Config.vblankLine : Nat := 241

/-- `DOTS_PER_CPU_CYCLE`. -/
def Config.dotsPerCpuCycle : Nat := 3

/-- FrameSink `WIDTH`. -/
def Config.width : Nat := 256

/-- FrameSink `HEIGHT`. -/
def Config.height : Nat := 240

/-! ### Parameters (R8): the source gives no number; the value is the spec's -/

/-- `NMI_EN_BIT`: the bit of the control byte that enables NMI. PRESUMED (log 7): "from general knowledge, not in source". -/
def Config.nmiEnBit : Nat := 7

/-- `INC_BIT`: the bit of the control byte that selects the VRAM increment (given by the source). -/
def Config.incBit : Nat := 2

/-- `H_NT_BIT`: the horizontal-nametable bit of a ScrollRegister. PRESUMED (log 8). -/
def Config.hNtBit : Nat := 10

/-- `V_NT_BIT`: the vertical-nametable bit of a ScrollRegister. PRESUMED (log 8). -/
def Config.vNtBit : Nat := 11

/-- `CHR_LIMIT`: PPU addresses below it are the mapper's. PRESUMED (log 9). -/
def Config.chrLimit : PpuAddr := 0x2000

/-- `PALETTE_BASE`: PPU addresses at or above it are the palette region. PRESUMED (log 9). -/
def Config.paletteBase : PpuAddr := 0x3F00

/-- `PALETTE_UNDER`: how far below a palette address its underlying nametable byte lies. PRESUMED (log 9). -/
def Config.paletteUnder : PpuAddr := 0x1000

/-- `VRAM_FOLD`: the index of `vram` a PPU address at or above `CHR_LIMIT` reaches; the spec's default is the identity
(20_memory.md R66). DESIGN CHOICE (log 10). -/
def Config.vramFold (a : PpuAddr) : PpuAddr := a

/-- `INIT_RAM`: the power-on contents of system RAM. DESIGN CHOICE (log 4). -/
def Config.initRam (_ : Nat) : Byte := 0

/-- `INIT_VRAM`: the power-on contents of the VRAM array. DESIGN CHOICE (log 4). -/
def Config.initVram (_ : Nat) : Byte := 0

/-- `INIT_OAM`: the power-on contents of OAM. DESIGN CHOICE (log 4). -/
def Config.initOam (_ : Nat) : Byte := 0

/-- `INIT_SECOAM`: the power-on contents of secondary OAM. DESIGN CHOICE (log 4). -/
def Config.initSecondaryOam (_ : Nat) : Byte := 0

/-- The FrameSink's colours at construction, "all 0" (R265). -/
def Config.initPixels (_ : Nat) : Colour := 0

/-! ### Free values -/

/-- The mapper's answer to a read. The argument is every call the block has made on it, newest first, the read itself at
the head: "an oracle with its own state, whose reads may return any byte and may depend on every earlier call" (R251).
It has no body: no proof can know a value of it (log 5). -/
opaque Config.mapperAnswer : List MapperCall → Byte

/-- The input device's answer to a read, in the same form (R253; log 6). -/
opaque Config.inputAnswer : List InputCall → Byte

end Sys2Proof
end

