-- ==== Sys2Proof/Syntax.lean ====
section
/-! DEFINITION. The operations of the block (00_scope.md R4): one constructor of `Instr` per mnemonic of
spec/opcode_table.json, its operands as the command word carries them (30_encoding.md R91 to R111). A CPU address stands
in a bus operation whole, because a mapper is given it whole and because each register has 1024 of them (R63);
WellFormed.lean says which addresses select which operation. -/

namespace Sys2Proof

/-- The target register of a ScrollRegister operation: bit 15 of `a`, 0 for `v` and 1 for `t` (30_encoding.md R110). -/
inductive ScrollTarget where
  | v
  | t
deriving DecidableEq, Repr

/-- What a CPU address selects (20_memory.md R61, 30_encoding.md R93). -/
inductive BusTarget where
  /-- $0000 to $1FFF -/
  | ram
  /-- $2000 to $3FFF, register `addr & 7` -/
  | reg (i : BitVec 3)
  /-- $4014 -/
  | oamDma
  /-- $4016 -/
  | input
  /-- $4000 to $4013, $4015, $4017 to $401F -/
  | unmapped
  /-- $4020 to $FFFF -/
  | prg
deriving DecidableEq, Repr

/-- Why a command word spells no operation (30_encoding.md R117). -/
inductive Reject where
  /-- `op` 9 to 15. -/
  | reservedOp (op : BitVec 4)
  /-- A reserved `sub` of the class `op`. -/
  | reservedSub (op sub : BitVec 4)
  /-- A field the operation does not use is not 0. -/
  | unusedField (op sub : BitVec 4)
  /-- SR_BUMP with an amount other than 1 or 32. -/
  | bumpAmount (d : Byte)
  /-- EXT_RAISE with a kind other than 1 (NMI) or 2 (IRQ). -/
  | raiseKind (sub : BitVec 4)
deriving DecidableEq, Repr

/-- The operations. -/
inductive Instr where
  -- bus transactions (43_bus_dispatch.md; WR_OAMDMA 44_bus_dma_tick_irq.md R231)
  | rdRam (a : Addr)
  | wrRam (a : Addr) (b : Byte)
  | rdPpuctrl (a : Addr)
  | wrPpuctrl (a : Addr) (b : Byte)
  | rdPpumask (a : Addr)
  | wrPpumask (a : Addr) (b : Byte)
  | rdPpustatus (a : Addr)
  | wrPpustatus (a : Addr) (b : Byte)
  | rdOamaddr (a : Addr)
  | wrOamaddr (a : Addr) (b : Byte)
  | rdOamdata (a : Addr)
  | wrOamdata (a : Addr) (b : Byte)
  | rdPpuscroll (a : Addr)
  | wrPpuscroll (a : Addr) (b : Byte)
  | rdPpuaddr (a : Addr)
  | wrPpuaddr (a : Addr) (b : Byte)
  | rdPpudata (a : Addr)
  | wrPpudata (a : Addr) (b : Byte)
  | rdOamdma
  | wrOamdma (p : Byte)
  | rdInput
  | wrInput (b : Byte)
  | rdUnmapped (a : Addr)
  | wrUnmapped (a : Addr) (b : Byte)
  | rdPrg (a : Addr)
  | wrPrg (a : Addr) (b : Byte)
  -- tick (44_bus_dma_tick_irq.md R233): a natural number of CPU cycles, of which a word carries 16 bits (R105)
  | tick (cycles : Nat)
  -- lifecycle and the interrupt and stall ports (R106)
  | reset
  | powerOn
  | intPeek
  | intTake
  | dmaPeek
  | dmaClear
  | ppuIntAck
  | extRaiseNmi
  | extRaiseIrq
  -- rendering port (R108)
  | rendIncX
  | rendIncY
  | rendSetS0hit
  | rendSetOvf
  | rendSecoamWr (i : BitVec 5) (b : Byte)
  | qV
  | qFinex
  | qOam (i : Byte)
  | qSecoam (i : BitVec 5)
  | qReg (i : BitVec 3)
  -- direct PPU port (R109)
  | ppuStep
  | ppuRegRd (i : BitVec 3)
  | ppuRegWr (i : BitVec 3) (b : Byte)
  -- ScrollRegister direct port (R110)
  | srIncX (r : ScrollTarget)
  | srIncY (r : ScrollTarget)
  | srSetH (r : ScrollTarget)
  | srSetV (r : ScrollTarget)
  | srRaw (r : ScrollTarget)
  | srBump1 (r : ScrollTarget)
  | srBump32 (r : ScrollTarget)
  | srSetRaw (r : ScrollTarget) (x : Scroll)
  -- FrameSink (R111)
  | fsSetPixel (c : Colour)
deriving DecidableEq, Repr

/-- The pseudo-operations (30_encoding.md R113): abbreviations of lists of operations (Machine/Pseudo.lean). -/
inductive Pseudo where
  | setAddr (a : Addr)
  | setScroll (x y : Byte)
  | vpoke (a : Addr) (b : Byte)
  | vpeek (a : Addr)
  | oamDma (p : Byte)
  | dots3 (n : Nat)
deriving DecidableEq, Repr

end Sys2Proof
end

