-- ==== Sys2Proof/WellFormed.lean ====
section
/-! DEFINITION. Which terms of `Instr` are operations: a bus operation's address lies in the set that selects it
(30_encoding.md R93, R94, and the operand line of each rule of 43_bus_dispatch.md), and a tick fits the word (R105).
Every other operand is bounded by its type. -/

namespace Sys2Proof

/-- $0000 to $1FFF (43_bus_dispatch.md R194, R195). -/
def addrIsRam (a : Addr) : Bool := a ≤ 0x1FFF#16

/-- `addr & $E007 = $2000 + i`: the 1024 addresses of PPU register `i` (R196 to R211). -/
def addrIsReg (i : BitVec 3) (a : Addr) : Bool := a &&& 0xE007#16 == 0x2000#16 ||| i.setWidth 16

/-- $4000 to $4013, $4015, $4017 to $401F (R215, R216). -/
def addrIsUnmapped (a : Addr) : Bool :=
  (0x4000#16 ≤ a && a ≤ 0x4013#16) || a == 0x4015#16 || (0x4017#16 ≤ a && a ≤ 0x401F#16)

/-- $4020 to $FFFF (R217, R218). -/
def addrIsPrg (a : Addr) : Bool := 0x4020#16 ≤ a

/-- The instruction is one operation of the block, with operands a command word carries. -/
def wellFormed (i : Instr) : Bool :=
  match i with
  | .rdRam a => addrIsRam a
  | .wrRam a _ => addrIsRam a
  | .rdPpuctrl a => addrIsReg 0 a
  | .wrPpuctrl a _ => addrIsReg 0 a
  | .rdPpumask a => addrIsReg 1 a
  | .wrPpumask a _ => addrIsReg 1 a
  | .rdPpustatus a => addrIsReg 2 a
  | .wrPpustatus a _ => addrIsReg 2 a
  | .rdOamaddr a => addrIsReg 3 a
  | .wrOamaddr a _ => addrIsReg 3 a
  | .rdOamdata a => addrIsReg 4 a
  | .wrOamdata a _ => addrIsReg 4 a
  | .rdPpuscroll a => addrIsReg 5 a
  | .wrPpuscroll a _ => addrIsReg 5 a
  | .rdPpuaddr a => addrIsReg 6 a
  | .wrPpuaddr a _ => addrIsReg 6 a
  | .rdPpudata a => addrIsReg 7 a
  | .wrPpudata a _ => addrIsReg 7 a
  | .rdOamdma => true
  | .wrOamdma _ => true
  | .rdInput => true
  | .wrInput _ => true
  | .rdUnmapped a => addrIsUnmapped a
  | .wrUnmapped a _ => addrIsUnmapped a
  | .rdPrg a => addrIsPrg a
  | .wrPrg a _ => addrIsPrg a
  | .tick n => decide (n < 65536)
  | .reset => true
  | .powerOn => true
  | .intPeek => true
  | .intTake => true
  | .dmaPeek => true
  | .dmaClear => true
  | .ppuIntAck => true
  | .extRaiseNmi => true
  | .extRaiseIrq => true
  | .rendIncX => true
  | .rendIncY => true
  | .rendSetS0hit => true
  | .rendSetOvf => true
  | .rendSecoamWr _ _ => true
  | .qV => true
  | .qFinex => true
  | .qOam _ => true
  | .qSecoam _ => true
  | .qReg _ => true
  | .ppuStep => true
  | .ppuRegRd _ => true
  | .ppuRegWr _ _ => true
  | .srIncX _ => true
  | .srIncY _ => true
  | .srSetH _ => true
  | .srSetV _ => true
  | .srRaw _ => true
  | .srBump1 _ => true
  | .srBump32 _ => true
  | .srSetRaw _ _ => true
  | .fsSetPixel _ => true

end Sys2Proof
end

