-- ==== Sys2Proof/Decode.lean ====
section
/-! DEFINITION. The decoder from command words to operations, total, refusing by name (30_encoding.md R90 to R94, R105 to
R111, R117), and after it the encoder (R91, R116), the opcode table and the mnemonic of each operation (R118). The command
word is one 32-bit number; the spec gives it no byte order (log 23). -/

namespace Sys2Proof

/-! ### The fields of a command word (R91) -/

/-- `op`, bits 31:28. -/
def opField (w : Command) : BitVec 4 := w.extractLsb' 28 4

/-- `sub`, bits 27:24. -/
def subField (w : Command) : BitVec 4 := w.extractLsb' 24 4

/-- `a`, bits 23:8. -/
def aField (w : Command) : Addr := w.extractLsb' 8 16

/-- `d`, bits 7:0. -/
def dField (w : Command) : Byte := w.extractLsb' 0 8

/-- The command word with the given fields. -/
def commandWord (op sub : BitVec 4) (a : Addr) (d : Byte) : Command := op ++ sub ++ a ++ d

/-! ### The bus address decode (R93) -/

/-- What a CPU address selects, in the order of BUS_READ and BUS_WRITE (43_bus_dispatch.md R190, R191). -/
def selectTarget (a : Addr) : BusTarget :=
  if a ≤ 0x1FFF#16 then .ram
  else if a ≤ 0x3FFF#16 then .reg (a.extractLsb' 0 3)
  else if a = 0x4014#16 then .oamDma
  else if a = 0x4016#16 then .input
  else if 0x4020#16 ≤ a then .prg
  else .unmapped

/-- The read operation an address selects (R93, "read mnemonic"). -/
def decodeRead (a : Addr) : Instr :=
  match selectTarget a with
  | .ram => .rdRam a
  | .reg i =>
    match i.toNat with
    | 0 => .rdPpuctrl a
    | 1 => .rdPpumask a
    | 2 => .rdPpustatus a
    | 3 => .rdOamaddr a
    | 4 => .rdOamdata a
    | 5 => .rdPpuscroll a
    | 6 => .rdPpuaddr a
    | _ => .rdPpudata a
  | .oamDma => .rdOamdma
  | .input => .rdInput
  | .unmapped => .rdUnmapped a
  | .prg => .rdPrg a

/-- The write operation an address selects (R93, "write mnemonic"). -/
def decodeWrite (a : Addr) (b : Byte) : Instr :=
  match selectTarget a with
  | .ram => .wrRam a b
  | .reg i =>
    match i.toNat with
    | 0 => .wrPpuctrl a b
    | 1 => .wrPpumask a b
    | 2 => .wrPpustatus a b
    | 3 => .wrOamaddr a b
    | 4 => .wrOamdata a b
    | 5 => .wrPpuscroll a b
    | 6 => .wrPpuaddr a b
    | _ => .wrPpudata a b
  | .oamDma => .wrOamdma b
  | .input => .wrInput b
  | .unmapped => .wrUnmapped a b
  | .prg => .wrPrg a b

/-! ### The other classes -/

/-- The operation when its unused fields are 0; otherwise the refusal R117 names. -/
def whenUnusedZero (unusedZero : Bool) (op sub : BitVec 4) (i : Instr) : Except Reject Instr :=
  if unusedZero then .ok i else .error (.unusedField op sub)

/-- SYS, `op` = 3 (R106): `a` = 0, `d` = 0. -/
def decodeSys (sub : BitVec 4) (a : Addr) (d : Byte) : Except Reject Instr :=
  let plain := whenUnusedZero (a == 0 && d == 0) 3 sub
  match sub.toNat with
  | 0 => plain .reset
  | 1 => plain .powerOn
  | 2 => plain .intPeek
  | 3 => plain .intTake
  | 4 => plain .dmaPeek
  | 5 => plain .dmaClear
  | 6 => plain .ppuIntAck
  | _ => .error (.reservedSub 3 sub)

/-- EXT_RAISE, `op` = 4 (R107): `sub` is the kind, 1 NMI or 2 IRQ. -/
def decodeExt (sub : BitVec 4) (a : Addr) (d : Byte) : Except Reject Instr :=
  let plain := whenUnusedZero (a == 0 && d == 0) 4 sub
  match sub.toNat with
  | 1 => plain .extRaiseNmi
  | 2 => plain .extRaiseIrq
  | _ => .error (.raiseKind sub)

/-- REND, `op` = 5 (R108). -/
def decodeRend (sub : BitVec 4) (a : Addr) (d : Byte) : Except Reject Instr :=
  let plain := whenUnusedZero (a == 0 && d == 0) 5 sub
  match sub.toNat with
  | 0 => plain .rendIncX
  | 1 => plain .rendIncY
  | 2 => plain .rendSetS0hit
  | 3 => plain .rendSetOvf
  | 4 => whenUnusedZero (a.extractLsb' 5 11 == 0) 5 sub (.rendSecoamWr (a.extractLsb' 0 5) d)
  | 8 => plain .qV
  | 9 => plain .qFinex
  | 10 => whenUnusedZero (a.extractLsb' 8 8 == 0 && d == 0) 5 sub (.qOam (a.extractLsb' 0 8))
  | 11 => whenUnusedZero (a.extractLsb' 5 11 == 0 && d == 0) 5 sub (.qSecoam (a.extractLsb' 0 5))
  | 12 => whenUnusedZero (a.extractLsb' 3 13 == 0 && d == 0) 5 sub (.qReg (a.extractLsb' 0 3))
  | _ => .error (.reservedSub 5 sub)

/-- PPU, `op` = 6 (R109). -/
def decodePpu (sub : BitVec 4) (a : Addr) (d : Byte) : Except Reject Instr :=
  match sub.toNat with
  | 0 => whenUnusedZero (a == 0 && d == 0) 6 sub .ppuStep
  | 1 => whenUnusedZero (a.extractLsb' 3 13 == 0 && d == 0) 6 sub (.ppuRegRd (a.extractLsb' 0 3))
  | 2 => whenUnusedZero (a.extractLsb' 3 13 == 0) 6 sub (.ppuRegWr (a.extractLsb' 0 3) d)
  | _ => .error (.reservedSub 6 sub)

/-- The target register of an SR word, `a[15]` (R110). -/
def decodeTarget (a : Addr) : ScrollTarget := if a.getLsbD 15 then .t else .v

/-- SR, `op` = 7 (R110). -/
def decodeSr (sub : BitVec 4) (a : Addr) (d : Byte) : Except Reject Instr :=
  let r := decodeTarget a
  let plain := whenUnusedZero (a.extractLsb' 0 15 == 0 && d == 0) 7 sub
  match sub.toNat with
  | 0 => plain (.srIncX r)
  | 1 => plain (.srIncY r)
  | 2 => plain (.srSetH r)
  | 3 => plain (.srSetV r)
  | 4 =>
    if d = 1 then whenUnusedZero (a.extractLsb' 0 15 == 0) 7 sub (.srBump1 r)
    else if d = 32 then whenUnusedZero (a.extractLsb' 0 15 == 0) 7 sub (.srBump32 r)
    else .error (.bumpAmount d)
  | 5 => plain (.srRaw r)
  | 6 => whenUnusedZero (d == 0) 7 sub (.srSetRaw r (a.extractLsb' 0 15))
  | _ => .error (.reservedSub 7 sub)

/-- The operation the four fields spell (R92, R117). -/
def decodeFields (op sub : BitVec 4) (a : Addr) (d : Byte) : Except Reject Instr :=
  match op.toNat with
  | 0 => whenUnusedZero (sub == 0 && d == 0) op sub (decodeRead a)
  | 1 => whenUnusedZero (sub == 0) op sub (decodeWrite a d)
  | 2 => whenUnusedZero (sub == 0 && d == 0) op sub (.tick a.toNat)
  | 3 => decodeSys sub a d
  | 4 => decodeExt sub a d
  | 5 => decodeRend sub a d
  | 6 => decodePpu sub a d
  | 7 => decodeSr sub a d
  | 8 => whenUnusedZero (sub == 0) op sub (.fsSetPixel (a ++ d))
  | _ => .error (.reservedOp op)

/-- The decoder: "every 32-bit value either matches exactly one row of `opcode_table.json` or is refused" (R90). -/
def decode (w : Command) : Except Reject Instr :=
  decodeFields (opField w) (subField w) (aField w) (dField w)

/-- The decoder on a word of the opcode table, whose bit 0 is the command word's bit 0: the `nbits` bits given, every
higher bit 0; a number that does not fit 32 bits is no command word. -/
def decodeTableWord (nbits w : Nat) : Option Instr :=
  let x := w % 2 ^ nbits
  if x < 2 ^ 32 then
    match decode (BitVec.ofNat 32 x) with
    | .ok i => some i
    | .error _ => none
  else none

/-! ### The encoder (R91, R92, R105 to R111) -/

/-- `a` of an SR word: the target in bit 15, the value below it. -/
def encodeTarget (r : ScrollTarget) (x : Scroll) : Addr :=
  match r with
  | .v => 0#1 ++ x
  | .t => 1#1 ++ x

/-- The command word of an instruction. -/
def encode (i : Instr) : Command :=
  match i with
  | .rdRam a => commandWord 0 0 a 0
  | .wrRam a b => commandWord 1 0 a b
  | .rdPpuctrl a => commandWord 0 0 a 0
  | .wrPpuctrl a b => commandWord 1 0 a b
  | .rdPpumask a => commandWord 0 0 a 0
  | .wrPpumask a b => commandWord 1 0 a b
  | .rdPpustatus a => commandWord 0 0 a 0
  | .wrPpustatus a b => commandWord 1 0 a b
  | .rdOamaddr a => commandWord 0 0 a 0
  | .wrOamaddr a b => commandWord 1 0 a b
  | .rdOamdata a => commandWord 0 0 a 0
  | .wrOamdata a b => commandWord 1 0 a b
  | .rdPpuscroll a => commandWord 0 0 a 0
  | .wrPpuscroll a b => commandWord 1 0 a b
  | .rdPpuaddr a => commandWord 0 0 a 0
  | .wrPpuaddr a b => commandWord 1 0 a b
  | .rdPpudata a => commandWord 0 0 a 0
  | .wrPpudata a b => commandWord 1 0 a b
  | .rdOamdma => commandWord 0 0 0x4014 0
  | .wrOamdma p => commandWord 1 0 0x4014 p
  | .rdInput => commandWord 0 0 0x4016 0
  | .wrInput b => commandWord 1 0 0x4016 b
  | .rdUnmapped a => commandWord 0 0 a 0
  | .wrUnmapped a b => commandWord 1 0 a b
  | .rdPrg a => commandWord 0 0 a 0
  | .wrPrg a b => commandWord 1 0 a b
  | .tick n => commandWord 2 0 (BitVec.ofNat 16 n) 0
  | .reset => commandWord 3 0 0 0
  | .powerOn => commandWord 3 1 0 0
  | .intPeek => commandWord 3 2 0 0
  | .intTake => commandWord 3 3 0 0
  | .dmaPeek => commandWord 3 4 0 0
  | .dmaClear => commandWord 3 5 0 0
  | .ppuIntAck => commandWord 3 6 0 0
  | .extRaiseNmi => commandWord 4 1 0 0
  | .extRaiseIrq => commandWord 4 2 0 0
  | .rendIncX => commandWord 5 0 0 0
  | .rendIncY => commandWord 5 1 0 0
  | .rendSetS0hit => commandWord 5 2 0 0
  | .rendSetOvf => commandWord 5 3 0 0
  | .rendSecoamWr i b => commandWord 5 4 (i.setWidth 16) b
  | .qV => commandWord 5 8 0 0
  | .qFinex => commandWord 5 9 0 0
  | .qOam i => commandWord 5 10 (i.setWidth 16) 0
  | .qSecoam i => commandWord 5 11 (i.setWidth 16) 0
  | .qReg i => commandWord 5 12 (i.setWidth 16) 0
  | .ppuStep => commandWord 6 0 0 0
  | .ppuRegRd i => commandWord 6 1 (i.setWidth 16) 0
  | .ppuRegWr i b => commandWord 6 2 (i.setWidth 16) b
  | .srIncX r => commandWord 7 0 (encodeTarget r 0) 0
  | .srIncY r => commandWord 7 1 (encodeTarget r 0) 0
  | .srSetH r => commandWord 7 2 (encodeTarget r 0) 0
  | .srSetV r => commandWord 7 3 (encodeTarget r 0) 0
  | .srRaw r => commandWord 7 5 (encodeTarget r 0) 0
  | .srBump1 r => commandWord 7 4 (encodeTarget r 0) 1
  | .srBump32 r => commandWord 7 4 (encodeTarget r 0) 32
  | .srSetRaw r x => commandWord 7 6 (encodeTarget r x) 0
  | .fsSetPixel c => commandWord 8 0 (c.extractLsb' 8 16) (c.extractLsb' 0 8)

/-! ### The opcode table (R118) -/

/-- The mnemonic of an instruction, as spec/opcode_table.json spells it. -/
def mnemonic (i : Instr) : String :=
  match i with
  | .rdRam _ => "RD_RAM"
  | .wrRam _ _ => "WR_RAM"
  | .rdPpuctrl _ => "RD_PPUCTRL"
  | .wrPpuctrl _ _ => "WR_PPUCTRL"
  | .rdPpumask _ => "RD_PPUMASK"
  | .wrPpumask _ _ => "WR_PPUMASK"
  | .rdPpustatus _ => "RD_PPUSTATUS"
  | .wrPpustatus _ _ => "WR_PPUSTATUS"
  | .rdOamaddr _ => "RD_OAMADDR"
  | .wrOamaddr _ _ => "WR_OAMADDR"
  | .rdOamdata _ => "RD_OAMDATA"
  | .wrOamdata _ _ => "WR_OAMDATA"
  | .rdPpuscroll _ => "RD_PPUSCROLL"
  | .wrPpuscroll _ _ => "WR_PPUSCROLL"
  | .rdPpuaddr _ => "RD_PPUADDR"
  | .wrPpuaddr _ _ => "WR_PPUADDR"
  | .rdPpudata _ => "RD_PPUDATA"
  | .wrPpudata _ _ => "WR_PPUDATA"
  | .rdOamdma => "RD_OAMDMA"
  | .wrOamdma _ => "WR_OAMDMA"
  | .rdInput => "RD_INPUT"
  | .wrInput _ => "WR_INPUT"
  | .rdUnmapped _ => "RD_UNMAPPED"
  | .wrUnmapped _ _ => "WR_UNMAPPED"
  | .rdPrg _ => "RD_PRG"
  | .wrPrg _ _ => "WR_PRG"
  | .tick _ => "TICK"
  | .reset => "RESET"
  | .powerOn => "POWER_ON"
  | .intPeek => "INT_PEEK"
  | .intTake => "INT_TAKE"
  | .dmaPeek => "DMA_PEEK"
  | .dmaClear => "DMA_CLEAR"
  | .ppuIntAck => "PPU_INT_ACK"
  | .extRaiseNmi => "EXT_RAISE_NMI"
  | .extRaiseIrq => "EXT_RAISE_IRQ"
  | .rendIncX => "REND_INC_X"
  | .rendIncY => "REND_INC_Y"
  | .rendSetS0hit => "REND_SET_S0HIT"
  | .rendSetOvf => "REND_SET_OVF"
  | .rendSecoamWr _ _ => "REND_SECOAM_WR"
  | .qV => "Q_V"
  | .qFinex => "Q_FINEX"
  | .qOam _ => "Q_OAM"
  | .qSecoam _ => "Q_SECOAM"
  | .qReg _ => "Q_REG"
  | .ppuStep => "PPU_STEP"
  | .ppuRegRd _ => "PPU_REG_RD"
  | .ppuRegWr _ _ => "PPU_REG_WR"
  | .srIncX _ => "SR_INC_X"
  | .srIncY _ => "SR_INC_Y"
  | .srSetH _ => "SR_SET_H"
  | .srSetV _ => "SR_SET_V"
  | .srRaw _ => "SR_RAW"
  | .srBump1 _ => "SR_BUMP_1"
  | .srBump32 _ => "SR_BUMP_32"
  | .srSetRaw _ _ => "SR_SET_RAW"
  | .fsSetPixel _ => "FS_SET_PIXEL"

/-- One row of spec/opcode_table.json: "a word `w` selects the row when `w & mask = match`" (R118). -/
structure OpcodeRow where
  mnemonic : String
  pattern : Command
  mask : Command
deriving DecidableEq, Repr

/-- The word selects the row. -/
def rowMatches (w : Command) (r : OpcodeRow) : Bool := w &&& r.mask == r.pattern

/-- The rows of bus reads, `op` = 0. -/
def readRows : List OpcodeRow :=
  [⟨"RD_RAM", 0x00000000, 0xFFE000FF⟩,
   ⟨"RD_PPUCTRL", 0x00200000, 0xFFE007FF⟩,
   ⟨"RD_PPUMASK", 0x00200100, 0xFFE007FF⟩,
   ⟨"RD_PPUSTATUS", 0x00200200, 0xFFE007FF⟩,
   ⟨"RD_OAMADDR", 0x00200300, 0xFFE007FF⟩,
   ⟨"RD_OAMDATA", 0x00200400, 0xFFE007FF⟩,
   ⟨"RD_PPUSCROLL", 0x00200500, 0xFFE007FF⟩,
   ⟨"RD_PPUADDR", 0x00200600, 0xFFE007FF⟩,
   ⟨"RD_PPUDATA", 0x00200700, 0xFFE007FF⟩,
   ⟨"RD_OAMDMA", 0x00401400, 0xFFFFFFFF⟩,
   ⟨"RD_INPUT", 0x00401600, 0xFFFFFFFF⟩,
   ⟨"RD_UNMAPPED", 0x00400000, 0xFFFFF0FF⟩,
   ⟨"RD_UNMAPPED", 0x00401000, 0xFFFFFCFF⟩,
   ⟨"RD_UNMAPPED", 0x00401500, 0xFFFFFFFF⟩,
   ⟨"RD_UNMAPPED", 0x00401700, 0xFFFFFFFF⟩,
   ⟨"RD_UNMAPPED", 0x00401800, 0xFFFFF8FF⟩,
   ⟨"RD_PRG", 0x00402000, 0xFFFFE0FF⟩,
   ⟨"RD_PRG", 0x00404000, 0xFFFFC0FF⟩,
   ⟨"RD_PRG", 0x00408000, 0xFFFF80FF⟩,
   ⟨"RD_PRG", 0x00410000, 0xFFFF00FF⟩,
   ⟨"RD_PRG", 0x00420000, 0xFFFE00FF⟩,
   ⟨"RD_PRG", 0x00440000, 0xFFFC00FF⟩,
   ⟨"RD_PRG", 0x00480000, 0xFFF800FF⟩,
   ⟨"RD_PRG", 0x00500000, 0xFFF000FF⟩,
   ⟨"RD_PRG", 0x00600000, 0xFFE000FF⟩,
   ⟨"RD_PRG", 0x00800000, 0xFF8000FF⟩]

/-- The rows of bus writes, `op` = 1. -/
def writeRows : List OpcodeRow :=
  [⟨"WR_RAM", 0x10000000, 0xFFE00000⟩,
   ⟨"WR_PPUCTRL", 0x10200000, 0xFFE00700⟩,
   ⟨"WR_PPUMASK", 0x10200100, 0xFFE00700⟩,
   ⟨"WR_PPUSTATUS", 0x10200200, 0xFFE00700⟩,
   ⟨"WR_OAMADDR", 0x10200300, 0xFFE00700⟩,
   ⟨"WR_OAMDATA", 0x10200400, 0xFFE00700⟩,
   ⟨"WR_PPUSCROLL", 0x10200500, 0xFFE00700⟩,
   ⟨"WR_PPUADDR", 0x10200600, 0xFFE00700⟩,
   ⟨"WR_PPUDATA", 0x10200700, 0xFFE00700⟩,
   ⟨"WR_OAMDMA", 0x10401400, 0xFFFFFF00⟩,
   ⟨"WR_INPUT", 0x10401600, 0xFFFFFF00⟩,
   ⟨"WR_UNMAPPED", 0x10400000, 0xFFFFF000⟩,
   ⟨"WR_UNMAPPED", 0x10401000, 0xFFFFFC00⟩,
   ⟨"WR_UNMAPPED", 0x10401500, 0xFFFFFF00⟩,
   ⟨"WR_UNMAPPED", 0x10401700, 0xFFFFFF00⟩,
   ⟨"WR_UNMAPPED", 0x10401800, 0xFFFFF800⟩,
   ⟨"WR_PRG", 0x10402000, 0xFFFFE000⟩,
   ⟨"WR_PRG", 0x10404000, 0xFFFFC000⟩,
   ⟨"WR_PRG", 0x10408000, 0xFFFF8000⟩,
   ⟨"WR_PRG", 0x10410000, 0xFFFF0000⟩,
   ⟨"WR_PRG", 0x10420000, 0xFFFE0000⟩,
   ⟨"WR_PRG", 0x10440000, 0xFFFC0000⟩,
   ⟨"WR_PRG", 0x10480000, 0xFFF80000⟩,
   ⟨"WR_PRG", 0x10500000, 0xFFF00000⟩,
   ⟨"WR_PRG", 0x10600000, 0xFFE00000⟩,
   ⟨"WR_PRG", 0x10800000, 0xFF800000⟩]

/-- The rows of TICK, SYS and EXT_RAISE, `op` = 2 to 4. -/
def portRows : List OpcodeRow :=
  [⟨"TICK", 0x20000000, 0xFF0000FF⟩,
   ⟨"RESET", 0x30000000, 0xFFFFFFFF⟩,
   ⟨"POWER_ON", 0x31000000, 0xFFFFFFFF⟩,
   ⟨"INT_PEEK", 0x32000000, 0xFFFFFFFF⟩,
   ⟨"INT_TAKE", 0x33000000, 0xFFFFFFFF⟩,
   ⟨"DMA_PEEK", 0x34000000, 0xFFFFFFFF⟩,
   ⟨"DMA_CLEAR", 0x35000000, 0xFFFFFFFF⟩,
   ⟨"PPU_INT_ACK", 0x36000000, 0xFFFFFFFF⟩,
   ⟨"EXT_RAISE_NMI", 0x41000000, 0xFFFFFFFF⟩,
   ⟨"EXT_RAISE_IRQ", 0x42000000, 0xFFFFFFFF⟩]

/-- The rows of the rendering port and the direct PPU port, `op` = 5 and 6. -/
def rendRows : List OpcodeRow :=
  [⟨"REND_INC_X", 0x50000000, 0xFFFFFFFF⟩,
   ⟨"REND_INC_Y", 0x51000000, 0xFFFFFFFF⟩,
   ⟨"REND_SET_S0HIT", 0x52000000, 0xFFFFFFFF⟩,
   ⟨"REND_SET_OVF", 0x53000000, 0xFFFFFFFF⟩,
   ⟨"REND_SECOAM_WR", 0x54000000, 0xFFFFE000⟩,
   ⟨"Q_V", 0x58000000, 0xFFFFFFFF⟩,
   ⟨"Q_FINEX", 0x59000000, 0xFFFFFFFF⟩,
   ⟨"Q_OAM", 0x5A000000, 0xFFFF00FF⟩,
   ⟨"Q_SECOAM", 0x5B000000, 0xFFFFE0FF⟩,
   ⟨"Q_REG", 0x5C000000, 0xFFFFF8FF⟩,
   ⟨"PPU_STEP", 0x60000000, 0xFFFFFFFF⟩,
   ⟨"PPU_REG_RD", 0x61000000, 0xFFFFF8FF⟩,
   ⟨"PPU_REG_WR", 0x62000000, 0xFFFFF800⟩]

/-- The rows of the ScrollRegister direct port and the FrameSink, `op` = 7 and 8. -/
def scrollRows : List OpcodeRow :=
  [⟨"SR_INC_X", 0x70000000, 0xFF7FFFFF⟩,
   ⟨"SR_INC_Y", 0x71000000, 0xFF7FFFFF⟩,
   ⟨"SR_SET_H", 0x72000000, 0xFF7FFFFF⟩,
   ⟨"SR_SET_V", 0x73000000, 0xFF7FFFFF⟩,
   ⟨"SR_RAW", 0x75000000, 0xFF7FFFFF⟩,
   ⟨"SR_BUMP_1", 0x74000001, 0xFF7FFFFF⟩,
   ⟨"SR_BUMP_32", 0x74000020, 0xFF7FFFFF⟩,
   ⟨"SR_SET_RAW", 0x76000000, 0xFF0000FF⟩,
   ⟨"FS_SET_PIXEL", 0x80000000, 0xFF000000⟩]

/-- The 84 rows of spec/opcode_table.json. -/
def opcodeRows : List OpcodeRow := readRows ++ writeRows ++ portRows ++ rendRows ++ scrollRows

end Sys2Proof
end

