-- ==== Sys2Proof/Machine/State.lean ====
section
/-! DEFINITION. The state of the block (10_state.md R20: a Bus part and a PPU part), the FrameSink (45_collaborator_ports.md
R265), what the block has asked of its two collaborators, the commands waiting and the last reply; the ways a step can
stop; the state after power-on (R50, R310). INVENTORY.md lists every field with its rule. -/

namespace Sys2Proof.Machine

/-- The kind of an interrupt request (30_encoding.md R98). "No pending interrupt" is the absent value of `Option Kind`. -/
inductive Kind where
  | nmi
  | irq
deriving DecidableEq, Repr

/-- A single-entry interrupt slot: None, NMI or IRQ (10_state.md R22, R46). -/
abbrev Slot := Option Kind

/-- A memory: address and value pairs, addresses strictly rising, no entry equal to what an unlisted address reads as
(`Memory.wf`, Machine/Ops.lean). `Memory Byte` is `List Host.Cell`. -/
abbrev Memory (α : Type) := List (Nat × α)

/-- The PPU part of the state (10_state.md sections 3 to 8). -/
structure Ppu where
  /-- The raw register image; element 0 is the control byte, element 1 the mask byte (R25, R27, R28). -/
  registers : Vector Byte 8
  /-- The current VRAM address (R30). -/
  v : Scroll
  /-- The temporary VRAM address (R31). -/
  t : Scroll
  /-- The pending fine X (R32). -/
  fineX : BitVec 3
  /-- The latch shared by $2005 and $2006; false is first-write mode (R33). -/
  writeToggle : Bool
  /-- Object attribute memory, 256 bytes (R34). -/
  oam : Memory Byte
  /-- The OAM cursor (R35). -/
  oamAddr : Byte
  /-- Secondary OAM, 32 bytes (R36). -/
  secondaryOam : Memory Byte
  /-- The VRAM array, 16384 bytes (R37). -/
  vram : Memory Byte
  /-- The $2007 read buffer (R38). -/
  readBuffer : Byte
  /-- The scanline counter, 0 to 261 (R39). -/
  scanline : Nat
  /-- The dot counter, 0 to 340 (R40). -/
  dot : Nat
  /-- The frame parity (R41). -/
  oddFrame : Bool
  /-- Show flag of the background (R42). -/
  showBackground : Bool
  /-- Show flag of the sprites (R42). -/
  showSprites : Bool
  /-- The vertical-blank flag (R43). -/
  inVblank : Bool
  /-- The sprite-zero-hit flag (R43). -/
  spriteZeroHit : Bool
  /-- The sprite-overflow flag (R43). -/
  spriteOverflow : Bool
  /-- `ppu_pending`, the PPU's interrupt slot (R46). -/
  pending : Slot
deriving DecidableEq, Repr

/-- What the block knows of the mapper: the calls it has made on it, newest first, and the answers the environment has
ready for its next reads (R250, R251; log 5). -/
structure Mapper where
  calls : List MapperCall
  answers : List Byte
deriving DecidableEq, Repr

/-- What the block knows of the input device, in the same form (R253; log 6). -/
structure InputDevice where
  calls : List InputCall
  answers : List Byte
deriving DecidableEq, Repr

/-- The FrameSink: 61440 colours and a cursor (R265). -/
structure FrameSink where
  pixels : Memory Colour
  cursor : Nat
deriving DecidableEq, Repr

/-- What an operation returns to its caller (00_scope.md R12: "for reads and observes, a byte or a kind"; log 2). -/
inductive Reply where
  /-- The operation returns nothing. -/
  | nothing
  /-- A byte: bus reads, PPU_REG_RD, Q_OAM, Q_SECOAM, Q_REG. -/
  | byte (b : Byte)
  /-- A kind: INT_PEEK, INT_TAKE, and PPU_REG_WR's `raised` (41_ppu_registers.md R140). -/
  | kind (k : Slot)
  /-- The stall flag: DMA_PEEK. -/
  | stall (b : Bool)
  /-- Fifteen bits: SR_RAW and Q_V. -/
  | scroll (x : Scroll)
  /-- Three bits: Q_FINEX. -/
  | fineX (x : BitVec 3)
  /-- PPU_STEP's pair (42_ppu_timing.md R170). -/
  | stepped (raised level : Slot)
deriving DecidableEq, Repr

/-- The state. -/
structure State where
  /-- System RAM, 2048 bytes (R21). -/
  ram : Memory Byte
  /-- `bus_pending`, the Bus's interrupt slot (R22). -/
  busPending : Slot
  /-- The OAM-DMA stall flag (R23). -/
  dmaStall : Bool
  /-- The PPU part, which the Bus exclusively owns (00_scope.md R2). -/
  ppu : Ppu
  /-- The FrameSink (R265). -/
  sink : FrameSink
  /-- The model's own: the mapper as the block sees it (log 5). -/
  mapper : Mapper
  /-- The model's own: the input device as the block sees it (log 6). -/
  input : InputDevice
  /-- The model's own: the command words waiting to be taken, oldest first (log 1). -/
  commands : List Command
  /-- The model's own: what the last operation returned (log 2). -/
  reply : Reply
deriving DecidableEq, Repr

/-- The ways the block can fault: none. "No operation faults, traps, blocks or is cancellable" (00_scope.md R12);
"The block raises no synchronous exception" (60_exceptions.md R280). Having no constructor is safe: no claim can rest on a
fault. -/
inductive Fault where
deriving DecidableEq, Repr

/-- The ways a step can be refused. -/
inductive Refusal where
  /-- Raised by an arm of `exec` that has no meaning yet. Safe: the machine stops. No arm does so. -/
  | notModelled (mnemonic : String)
  /-- Raised by `step` on a command word that spells no operation (30_encoding.md R117), with the decoder's reason.
  Safe: "Refusal is a verdict of the decoder of this spec's own command words and says nothing of the hardware". -/
  | noOperation (reason : Reject)
deriving DecidableEq, Repr

/-- The PPU part after POWER_ON (10_state.md R50). -/
def Ppu.powerOn : Ppu :=
  { registers := Vector.replicate 8 0
    v := 0
    t := 0
    fineX := 0
    writeToggle := false
    oam := []
    oamAddr := 0
    secondaryOam := []
    vram := []
    readBuffer := 0
    scanline := 0
    dot := 0
    oddFrame := false
    showBackground := false
    showSprites := false
    inVblank := false
    spriteZeroHit := false
    spriteOverflow := false
    pending := none }

/-- The machine right after power-on (R50, R310; log 3): every memory lists nothing, no command waits, nothing has been
asked of the collaborators. The operation RESET is Machine/Ports.lean's. -/
def State.reset : State :=
  { ram := []
    busPending := none
    dmaStall := false
    ppu := Ppu.powerOn
    sink := { pixels := [], cursor := 0 }
    mapper := { calls := [], answers := [] }
    input := { calls := [], answers := [] }
    commands := []
    reply := .nothing }

end Sys2Proof.Machine
end

