-- ==== Sys2Proof/Machine/Ops.lean ====
section
/-! DEFINITION. The named operations every meaning is made of: the memories, the register image, the updates of the state's
fields, the calls on the two collaborators, and the raise of an interrupt request, which stands here where other
hardware takes an exception. -/

namespace Sys2Proof.Machine

/-- The outcome of one operation. -/
abbrev Outcome := Host.Outcome State Fault Refusal

/-! ### Memories -/

/-- The value at address `a`; an unlisted address reads as `init a`. -/
def Memory.read {α : Type} (init : Nat → α) (m : Memory α) (a : Nat) : α :=
  match m with
  | [] => init a
  | (x, c) :: rest => if x = a then c else Memory.read init rest a

/-- `m` without its entries at address `a`. -/
def Memory.erase {α : Type} (m : Memory α) (a : Nat) : Memory α :=
  match m with
  | [] => []
  | (x, c) :: rest => if x = a then Memory.erase rest a else (x, c) :: Memory.erase rest a

/-- `m` with the entry `(a, b)` put before the first higher address. -/
def Memory.insert {α : Type} (m : Memory α) (a : Nat) (b : α) : Memory α :=
  match m with
  | [] => [(a, b)]
  | (x, c) :: rest => if a < x then (a, b) :: (x, c) :: rest else (x, c) :: Memory.insert rest a b

/-- Store `b` at address `a`, keeping the canonical form: storing what an unlisted address reads as removes the entry. -/
def Memory.write {α : Type} [DecidableEq α] (init : Nat → α) (m : Memory α) (a : Nat) (b : α) : Memory α :=
  if b = init a then m.erase a else (m.erase a).insert a b

/-- Addresses strictly rising from `lo`, below `size`, and no entry equal to what an unlisted address reads as. -/
def Memory.wfFrom {α : Type} [DecidableEq α] (init : Nat → α) (size lo : Nat) (m : Memory α) : Bool :=
  match m with
  | [] => true
  | (x, c) :: rest => decide (lo ≤ x) && decide (x < size) && decide (c ≠ init x) && Memory.wfFrom init size (x + 1) rest

/-- The canonical form of a memory of `size` addresses. -/
def Memory.wf {α : Type} [DecidableEq α] (init : Nat → α) (size : Nat) (m : Memory α) : Bool := m.wfFrom init size 0

/-! ### Updates of the state's fields -/

/-- The state with another RAM. -/
def State.setRam (s : State) (m : Memory Byte) : State := { s with ram := m }

/-- The state with another Bus slot. -/
def State.setBusPending (s : State) (k : Slot) : State := { s with busPending := k }

/-- The state with another stall flag. -/
def State.setDmaStall (s : State) (b : Bool) : State := { s with dmaStall := b }

/-- The state with another PPU part. -/
def State.setPpu (s : State) (p : Ppu) : State := { s with ppu := p }

/-- The state with another FrameSink. -/
def State.setSink (s : State) (f : FrameSink) : State := { s with sink := f }

/-- The state with another record of the mapper. -/
def State.setMapper (s : State) (m : Mapper) : State := { s with mapper := m }

/-- The state with another record of the input device. -/
def State.setInput (s : State) (d : InputDevice) : State := { s with input := d }

/-- The state with other commands waiting. -/
def State.setCommands (s : State) (ws : List Command) : State := { s with commands := ws }

/-- The state with another reply. -/
def State.setReply (s : State) (r : Reply) : State := { s with reply := r }

/-! ### How an operation ends -/

/-- The operation returns nothing. -/
def finish (s : State) : Outcome := .next (s.setReply .nothing)

/-- The operation returns `r`. -/
def answer (r : Reply) (s : State) : Outcome := .next (s.setReply r)

/-! ### Typed accesses to the memories: every index is masked by its width (10_state.md R47) -/

/-- `ram[i]` (R21). -/
def State.ramByte (s : State) (i : BitVec 11) : Byte := s.ram.read Config.initRam i.toNat

/-- `ram[i] <- b`. -/
def State.storeRam (s : State) (i : BitVec 11) (b : Byte) : State := s.setRam (s.ram.write Config.initRam i.toNat b)

/-- `oam[i]` (R34). -/
def Ppu.oamByte (p : Ppu) (i : Byte) : Byte := p.oam.read Config.initOam i.toNat

/-- `oam[i] <- b`. -/
def Ppu.storeOam (p : Ppu) (i b : Byte) : Ppu := { p with oam := p.oam.write Config.initOam i.toNat b }

/-- `secondary_oam[i]` (R36). -/
def Ppu.secondaryOamByte (p : Ppu) (i : BitVec 5) : Byte := p.secondaryOam.read Config.initSecondaryOam i.toNat

/-- `secondary_oam[i] <- b`. -/
def Ppu.storeSecondaryOam (p : Ppu) (i : BitVec 5) (b : Byte) : Ppu :=
  { p with secondaryOam := p.secondaryOam.write Config.initSecondaryOam i.toNat b }

/-- `vram[VRAM_FOLD(a)]` (20_memory.md R66). -/
def Ppu.vramByte (p : Ppu) (a : PpuAddr) : Byte := p.vram.read Config.initVram (Config.vramFold a).toNat

/-- `vram[VRAM_FOLD(a)] <- b`. -/
def Ppu.storeVram (p : Ppu) (a : PpuAddr) (b : Byte) : Ppu :=
  { p with vram := p.vram.write Config.initVram (Config.vramFold a).toNat b }

/-- `registers[i]` (R25). -/
def Ppu.register (p : Ppu) (i : BitVec 3) : Byte := p.registers[i.toNat]'i.isLt

/-- `registers[i] <- b`, the common first step of every PPU register write of index other than 2 (41_ppu_registers.md R141;
log 21). -/
def Ppu.setRegister (p : Ppu) (i : BitVec 3) (b : Byte) : Ppu := { p with registers := p.registers.set i.toNat b i.isLt }

/-- The control byte, `registers[0]` (R27). -/
def Ppu.ctrl (p : Ppu) : Byte := p.register 0

/-- The mask byte, `registers[1]` (R28). -/
def Ppu.mask (p : Ppu) : Byte := p.register 1

/-- `v` or `t` (30_encoding.md R110). -/
def Ppu.scroll (p : Ppu) (r : ScrollTarget) : Scroll :=
  match r with
  | .v => p.v
  | .t => p.t

/-- `v <- x` or `t <- x`. -/
def Ppu.setScroll (p : Ppu) (r : ScrollTarget) (x : Scroll) : Ppu :=
  match r with
  | .v => { p with v := x }
  | .t => { p with t := x }

/-- The other ScrollRegister: the source of the two copy functions (R110). -/
def otherTarget (r : ScrollTarget) : ScrollTarget :=
  match r with
  | .v => .t
  | .t => .v

/-! ### Calls on the collaborators -/

/-- A read call on the mapper: the byte it answers, and the record with the call in it. The answer is the next one the
environment has ready, and where there is none the free value of the whole history (45_collaborator_ports.md R251;
log 5). -/
def Mapper.ask (m : Mapper) (c : MapperCall) : Byte × Mapper :=
  match m.answers with
  | [] => (Config.mapperAnswer (c :: m.calls), { calls := c :: m.calls, answers := [] })
  | b :: rest => (b, { calls := c :: m.calls, answers := rest })

/-- A write call on the mapper (R250). -/
def Mapper.tell (m : Mapper) (c : MapperCall) : Mapper := { m with calls := c :: m.calls }

/-- `Input.read()` (R253; log 6). -/
def InputDevice.ask (d : InputDevice) : Byte × InputDevice :=
  match d.answers with
  | [] => (Config.inputAnswer (.read :: d.calls), { calls := .read :: d.calls, answers := [] })
  | b :: rest => (b, { calls := .read :: d.calls, answers := rest })

/-- `Input.write(b)` (R253). -/
def InputDevice.tell (d : InputDevice) (b : Byte) : InputDevice := { d with calls := .write b :: d.calls }

/-! ### Raising and clearing an interrupt request

"What the block does when an interrupt is raised is exactly rule R283 and nothing more: no state is saved, no mode
changes, no address is produced, no operation is cancelled" (60_exceptions.md R286). -/

/-- The slot after a request: a request overwrites unconditionally, and no request leaves the slot as it was (R283). -/
def latch (raised slot : Slot) : Slot := raised.or slot

/-- `RaisePpu(k)` when `raised` is a kind; nothing when it is None (R283). -/
def raisePpu (raised : Slot) (p : Ppu) : Ppu := { p with pending := latch raised p.pending }

/-- `RaiseBus(k)` when `raised` is a kind; nothing when it is None (R283). -/
def raiseBus (raised : Slot) (s : State) : State := s.setBusPending (latch raised s.busPending)

/-- The acknowledge of the PPU slot: `ppu_pending <- None` (44_bus_dma_tick_irq.md R240). -/
def ackPpu (p : Ppu) : Ppu := { p with pending := none }

/-- The acknowledge of the Bus slot: `bus_pending <- None` (R236). -/
def ackBus (s : State) : State := s.setBusPending none

end Sys2Proof.Machine
end

