-- ==== Sys2Proof/Machine/Operands.lean ====
section
/-! DEFINITION. The operand forms: the fields of a ScrollRegister (30_encoding.md R100) and its seven functions
(40_scrollregister.md), the folds of the two-step registers (R101, R102), the increment and the address of a $2007 access
(41_ppu_registers.md R151, R155), the source address of OAM DMA (R103). -/

namespace Sys2Proof.Machine

/-! ### Fields of a ScrollRegister (R100) -/

/-- `x[14:12]`. -/
def fineY (x : Scroll) : BitVec 3 := x.extractLsb' 12 3

/-- `x[11:10]`. -/
def nametable (x : Scroll) : BitVec 2 := x.extractLsb' 10 2

/-- `x[9:5]`. -/
def coarseY (x : Scroll) : BitVec 5 := x.extractLsb' 5 5

/-- `x[4:0]`. -/
def coarseX (x : Scroll) : BitVec 5 := x.extractLsb' 0 5

/-- Bits 14:12. -/
def fineYMask : Scroll := 0x7000#15

/-- Bits 11:10. -/
def nametableMask : Scroll := 0x0C00#15

/-- Bits 9:5. -/
def coarseYMask : Scroll := 0x03E0#15

/-- Bits 4:0. -/
def coarseXMask : Scroll := 0x001F#15

/-- The horizontal-nametable bit, `H_NT_BIT`. -/
def hNtMask : Scroll := BitVec.twoPow 15 Config.hNtBit

/-- The vertical-nametable bit, `V_NT_BIT`. -/
def vNtMask : Scroll := BitVec.twoPow 15 Config.vNtBit

/-- `x` with the bits under `mask` taken from `y`: `(x & ~mask) | (y & mask)` (40_scrollregister.md R123). -/
def withBits (mask x y : Scroll) : Scroll := (x &&& ~~~mask) ||| (y &&& mask)

/-- `x[14:12] <- f`. -/
def setFineY (x : Scroll) (f : BitVec 3) : Scroll := withBits fineYMask x (f.setWidth 15 <<< 12)

/-- `x[11:10] <- n`. -/
def setNametable (x : Scroll) (n : BitVec 2) : Scroll := withBits nametableMask x (n.setWidth 15 <<< 10)

/-- `x[9:5] <- c`. -/
def setCoarseY (x : Scroll) (c : BitVec 5) : Scroll := withBits coarseYMask x (c.setWidth 15 <<< 5)

/-- `x[4:0] <- c`. -/
def setCoarseX (x : Scroll) (c : BitVec 5) : Scroll := withBits coarseXMask x (c.setWidth 15)

/-! ### The ScrollRegister functions -/

/-- `coarse_x_increment()` (R121). -/
def incX (x : Scroll) : Scroll :=
  if coarseX x = 31 then setCoarseX x 0 ^^^ hNtMask else setCoarseX x (coarseX x + 1)

/-- `y_increment()` (R122): coarse Y 31 wraps without a flip, 30 takes the last branch. -/
def incY (x : Scroll) : Scroll :=
  if fineY x < 7 then setFineY x (fineY x + 1)
  else
    let y := setFineY x 0
    if coarseY x = 29 then setCoarseY y 0 ^^^ vNtMask
    else if coarseY x = 31 then setCoarseY y 0
    else setCoarseY y (coarseY x + 1)

/-- `set_horizontal_from(y)` (R123). -/
def setH (x y : Scroll) : Scroll := withBits (coarseXMask ||| hNtMask) x y

/-- `set_vertical_from(y)` (R124). -/
def setV (x y : Scroll) : Scroll := withBits (fineYMask ||| vNtMask ||| coarseYMask) x y

/-- `bump(amount)` (R125): bit 14 of the result is always 0. -/
def bump (amount x : Scroll) : Scroll := (x + amount) &&& 0x3FFF#15

/-! ### The folds of the two-step registers -/

/-- First $2005 write: `t[4:0] <- b[7:3]` (R101). -/
def scrollFold1 (t : Scroll) (b : Byte) : Scroll := setCoarseX t (b.extractLsb' 3 5)

/-- First $2005 write: `fine_x <- b[2:0]` (R101). -/
def scrollFineX (b : Byte) : BitVec 3 := b.extractLsb' 0 3

/-- Second $2005 write: `t[14:12] <- b[2:0]`, `t[9:5] <- b[7:3]` (R101). -/
def scrollFold2 (t : Scroll) (b : Byte) : Scroll := setCoarseY (setFineY t (b.extractLsb' 0 3)) (b.extractLsb' 3 5)

/-- First $2006 write: `t[13:8] <- b[5:0]`, `t[14] <- 0` (R102). -/
def addressFold1 (t : Scroll) (b : Byte) : Scroll := withBits 0x7F00#15 t ((b.extractLsb' 0 6).setWidth 15 <<< 8)

/-- Second $2006 write: `t[7:0] <- b` (R102). -/
def addressFold2 (t : Scroll) (b : Byte) : Scroll := withBits 0x00FF#15 t (b.setWidth 15)

/-! ### $2007 and OAM DMA -/

/-- The increment of a $2007 access, from the stored control byte (41_ppu_registers.md R155). -/
def vramIncrement (ctrl : Byte) : Scroll := if ctrl.getLsbD Config.incBit then 32 else 1

/-- The address of a $2007 access, `v[13:0]` (20_memory.md R65; log 20). -/
def dataAddr (v : Scroll) : PpuAddr := v.extractLsb' 0 14

/-- The source address of step `i` of an OAM DMA from page `p`: `p ++ i` (R103). -/
def dmaSource (p i : Byte) : Addr := p ++ i

/-- The RAM index of a CPU address: `addr & 0x07FF` (20_memory.md R62). -/
def ramIndex (a : Addr) : BitVec 11 := a.extractLsb' 0 11

end Sys2Proof.Machine
end

