-- ==== Sys2Proof/Machine/Flags.lean ====
section
/-! DEFINITION. The flags and what is computed from them: the derived predicates of 10_state.md R44 and R45, the status byte
(R29), the NMI enable and its edge (R27, 41_ppu_registers.md R142), the named timer states (42_ppu_timing.md R179), the port
encoding of a kind (30_encoding.md R98). -/

namespace Sys2Proof.Machine

/-- `rendering_enabled` (R44). -/
def renderingEnabled (p : Ppu) : Bool := p.showBackground || p.showSprites

/-- A visible or the pre-render scanline. -/
def isRenderLine (scanline : Nat) : Bool := decide (scanline ≤ Config.lastVisible) || scanline == Config.prerender

/-- `active_rendering` (R45): "(scanline <= 239 or scanline = 261) and rendering_enabled". -/
def activeRendering (p : Ppu) : Bool := isRenderLine p.scanline && renderingEnabled p

/-- The status byte: `in_vblank ++ sprite_zero_hit ++ sprite_overflow ++ 0b00000` (R29; bits 4 to 0, log 19). -/
def statusByte (p : Ppu) : Byte :=
  BitVec.ofBool p.inVblank ++ BitVec.ofBool p.spriteZeroHit ++ BitVec.ofBool p.spriteOverflow ++ 0#5

/-- `ctrl[NMI_EN_BIT]` (R27). -/
def nmiEnabled (ctrl : Byte) : Bool := ctrl.getLsbD Config.nmiEnBit

/-- What the write of control byte `new` over `old` raises: NMI on the 0-to-1 edge of the enable bit while `in_vblank`
(41_ppu_registers.md R142; 90_conflicts.md C2, log 22). -/
def controlRaises (old new : Byte) (inVblank : Bool) : Slot :=
  if !nmiEnabled old && nmiEnabled new && inVblank then some .nmi else none

/-- `mask[3]` (R28). -/
def maskShowsBackground (mask : Byte) : Bool := mask.getLsbD 3

/-- `mask[4]` (R28). -/
def maskShowsSprites (mask : Byte) : Bool := mask.getLsbD 4

/-- The four named states of the timer, "functions of" the scanline (R39, R179). -/
inductive TimerPhase where
  | preRender
  | render
  | postRender
  | verticalBlank
deriving DecidableEq, Repr

/-- The named state a scanline of 0 to 261 is in (R179). -/
def timerPhase (scanline : Nat) : TimerPhase :=
  if scanline = Config.prerender then .preRender
  else if scanline ≤ Config.lastVisible then .render
  else if scanline < Config.vblankLine then .postRender
  else .verticalBlank

/-- The two-bit port encoding of a slot: None 0, NMI 1, IRQ 2 (R98; log 23). -/
def kindCode (k : Slot) : BitVec 2 :=
  match k with
  | none => 0
  | some .nmi => 1
  | some .irq => 2

end Sys2Proof.Machine
end

