-- ==== Sys2Proof/Machine/PpuRegs.lean ====
section
/-! DEFINITION. The PPU register interface (41_ppu_registers.md): PpuRead, PpuWrite, and the direct port's PPU_REG_RD and
PPU_REG_WR. The Bus reaches the same two operations (Machine/Bus.lean). -/

namespace Sys2Proof.Machine

/-! ### Reads -/

/-- The effect of the Status read on the PPU (R144): `in_vblank`, `write_toggle` and `ppu_pending` are cleared. -/
def readStatus (p : Ppu) : Ppu := { ackPpu p with inVblank := false, writeToggle := false }

/-- The $2007 access's advance of `v`: SR_BUMP by the selected increment (R151, R152, R155). -/
def bumpV (p : Ppu) : Ppu := { p with v := bump (vramIncrement p.ctrl) p.v }

/-- Read Data (R151): palette reads return at once and refresh the buffer from the byte underneath; below the palette
region the buffer is returned and refreshed, from the mapper below `CHR_LIMIT` and from `vram` above it. -/
def readData (s : State) : Byte × State :=
  let p := s.ppu
  let a := dataAddr p.v
  if Config.paletteBase ≤ a then
    (p.vramByte a, s.setPpu (bumpV { p with readBuffer := p.vramByte (a - Config.paletteUnder) }))
  else if a < Config.chrLimit then
    let asked := s.mapper.ask (.readChr a)
    (p.readBuffer, (s.setMapper asked.2).setPpu (bumpV { p with readBuffer := asked.1 }))
  else
    (p.readBuffer, s.setPpu (bumpV { p with readBuffer := p.vramByte a }))

/-- PpuRead(i) (R140): the byte, and the state after. A write-only register reads 0 and changes nothing (R153; log 19). -/
def ppuRead (i : BitVec 3) (s : State) : Byte × State :=
  match i.toNat with
  | 2 => (statusByte s.ppu, s.setPpu (readStatus s.ppu))
  | 4 => (s.ppu.oamByte s.ppu.oamAddr, s)
  | 7 => readData s
  | _ => (0, s)

/-! ### Writes -/

/-- Write Control (R142) but for the raise: the image, then `t[11:10] <- b[1:0]`. -/
def writeControl (b : Byte) (p : Ppu) : Ppu := { p.setRegister 0 b with t := setNametable p.t (b.extractLsb' 0 2) }

/-- Write Mask (R143). -/
def writeMask (b : Byte) (p : Ppu) : Ppu :=
  { p.setRegister 1 b with showBackground := maskShowsBackground b, showSprites := maskShowsSprites b }

/-- Write OAM address (R146). -/
def writeOamAddr (b : Byte) (p : Ppu) : Ppu := { p.setRegister 3 b with oamAddr := b }

/-- Write OAM data, the OAM arbiter (R148): the byte is stored unless rendering is active; the cursor always advances. -/
def writeOamData (b : Byte) (p : Ppu) : Ppu :=
  let q := p.setRegister 4 b
  let stored := if activeRendering p then q else q.storeOam p.oamAddr b
  { stored with oamAddr := p.oamAddr + 1 }

/-- Write Scroll, two-step (R149). -/
def writeScroll (b : Byte) (p : Ppu) : Ppu :=
  let q := p.setRegister 5 b
  if p.writeToggle then { q with t := scrollFold2 p.t b, writeToggle := false }
  else { q with t := scrollFold1 p.t b, fineX := scrollFineX b, writeToggle := true }

/-- Write Address, two-step (R150): the second write copies all of `t` to `v`. -/
def writeAddress (b : Byte) (p : Ppu) : Ppu :=
  let q := p.setRegister 6 b
  if p.writeToggle then { q with t := addressFold2 p.t b, v := addressFold2 p.t b, writeToggle := false }
  else { q with t := addressFold1 p.t b, writeToggle := true }

/-- Write Data (R152): the mapper below `CHR_LIMIT`, `vram` above; `v` advances. -/
def writeData (b : Byte) (s : State) : State :=
  let a := dataAddr s.ppu.v
  let q := s.ppu.setRegister 7 b
  if a < Config.chrLimit then (s.setMapper (s.mapper.tell (.writeChr a b))).setPpu (bumpV q)
  else s.setPpu (bumpV (q.storeVram a b))

/-- PpuWrite(i, b) (R140): `raised`, and the state after. Only the Control write raises, into the PPU's slot (R142);
a write to Status changes nothing (R145; log 19). -/
def ppuWrite (i : BitVec 3) (b : Byte) (s : State) : Slot × State :=
  match i.toNat with
  | 0 =>
    let raised := controlRaises s.ppu.ctrl b s.ppu.inVblank
    (raised, s.setPpu (raisePpu raised (writeControl b s.ppu)))
  | 1 => (none, s.setPpu (writeMask b s.ppu))
  | 2 => (none, s)
  | 3 => (none, s.setPpu (writeOamAddr b s.ppu))
  | 4 => (none, s.setPpu (writeOamData b s.ppu))
  | 5 => (none, s.setPpu (writeScroll b s.ppu))
  | 6 => (none, s.setPpu (writeAddress b s.ppu))
  | _ => (none, writeData b s)

/-! ### The direct port (30_encoding.md R109) -/

/-- PPU_REG_RD(i) (R140). -/
def execPpuRegRd (i : BitVec 3) (s : State) : Outcome := answer (.byte (ppuRead i s).1) (ppuRead i s).2

/-- PPU_REG_WR(i, b) (R140): returns `raised`; the Bus's slot is not touched (60_exceptions.md R284). -/
def execPpuRegWr (i : BitVec 3) (b : Byte) (s : State) : Outcome :=
  answer (.kind (ppuWrite i b s).1) (ppuWrite i b s).2

end Sys2Proof.Machine
end

