-- ==== Sys2Proof/Machine/Bus.lean ====
section
/-! DEFINITION. Bus address decode and dispatch (43_bus_dispatch.md) and OAM DMA (44_bus_dma_tick_irq.md section 1): the two
dispatchers BUS_READ and BUS_WRITE, and the meaning of every bus operation. A meaning ignores the address where every
address of its set does the same (R63). -/

namespace Sys2Proof.Machine

/-! ### Reads -/

/-- RAM at a CPU address (R194). -/
def readRam (a : Addr) (s : State) : Byte × State := (s.ramByte (ramIndex a), s)

/-- `Input.read()` (R213). -/
def readInput (s : State) : Byte × State := (s.input.ask.1, s.setInput s.input.ask.2)

/-- `Mapper.read_prg(addr)` with the whole 16-bit address (R217). -/
def readPrg (a : Addr) (s : State) : Byte × State :=
  ((s.mapper.ask (.readPrg a)).1, s.setMapper (s.mapper.ask (.readPrg a)).2)

/-- $4014 and unmapped addresses read 0 and change nothing (R212, R215; log 19). -/
def readZero (s : State) : Byte × State := (0, s)

/-- BUS_READ(addr) (R190). -/
def busRead (a : Addr) (s : State) : Byte × State :=
  match selectTarget a with
  | .ram => readRam a s
  | .reg i => ppuRead i s
  | .input => readInput s
  | .prg => readPrg a s
  | .oamDma => readZero s
  | .unmapped => readZero s

/-! ### OAM DMA -/

/-- Pair `i` of an OAM DMA from page `p`: one BUS_READ with all its side effects, one OAM-data write (R231). -/
def dmaPair (p i : Byte) (s : State) : State := (ppuWrite 4 (busRead (dmaSource p i) s).1 (busRead (dmaSource p i) s).2).2

/-- The first `n` pairs, in order: pair 0 first (R231). -/
def dmaPairs (p : Byte) (n : Nat) (s : State) : State :=
  match n with
  | 0 => s
  | k + 1 => dmaPair p (BitVec.ofNat 8 k) (dmaPairs p k s)

/-- OAM DMA from page `p`: 256 pairs, then `dma_stall <- true` (R231; log 16). -/
def oamDma (p : Byte) (s : State) : State := (dmaPairs p Config.dmaLength s).setDmaStall true

/-! ### Writes -/

/-- RAM at a CPU address (R195). -/
def writeRam (a : Addr) (b : Byte) (s : State) : State := s.storeRam (ramIndex a) b

/-- A PPU register through the Bus: a raise of the PPU is latched into the Bus's slot in the same operation (R191, R197;
log 15). -/
def writeReg (i : BitVec 3) (b : Byte) (s : State) : State := raiseBus (ppuWrite i b s).1 (ppuWrite i b s).2

/-- `Input.write(b)` (R214). -/
def writeInput (b : Byte) (s : State) : State := s.setInput (s.input.tell b)

/-- `Mapper.write_prg(addr, b)` (R218). -/
def writePrg (a : Addr) (b : Byte) (s : State) : State := s.setMapper (s.mapper.tell (.writePrg a b))

/-- BUS_WRITE(addr, b) (R191); a write to an unmapped address does nothing (R216). -/
def busWrite (a : Addr) (b : Byte) (s : State) : State :=
  match selectTarget a with
  | .ram => writeRam a b s
  | .reg i => writeReg i b s
  | .oamDma => oamDma b s
  | .input => writeInput b s
  | .prg => writePrg a b s
  | .unmapped => s

/-! ### The meanings of the bus reads -/

/-- The bus transaction returns the byte read. -/
def answerByte (r : Byte × State) : Outcome := answer (.byte r.1) r.2

/-- RD_RAM (R194). -/
def execRdRam (a : Addr) (s : State) : Outcome := answerByte (readRam a s)

/-- RD_PPUCTRL (R196). -/
def execRdPpuctrl (_ : Addr) (s : State) : Outcome := answerByte (ppuRead 0 s)

/-- RD_PPUMASK (R198). -/
def execRdPpumask (_ : Addr) (s : State) : Outcome := answerByte (ppuRead 1 s)

/-- RD_PPUSTATUS (R200). -/
def execRdPpustatus (_ : Addr) (s : State) : Outcome := answerByte (ppuRead 2 s)

/-- RD_OAMADDR (R202). -/
def execRdOamaddr (_ : Addr) (s : State) : Outcome := answerByte (ppuRead 3 s)

/-- RD_OAMDATA (R204). -/
def execRdOamdata (_ : Addr) (s : State) : Outcome := answerByte (ppuRead 4 s)

/-- RD_PPUSCROLL (R206). -/
def execRdPpuscroll (_ : Addr) (s : State) : Outcome := answerByte (ppuRead 5 s)

/-- RD_PPUADDR (R208). -/
def execRdPpuaddr (_ : Addr) (s : State) : Outcome := answerByte (ppuRead 6 s)

/-- RD_PPUDATA (R210). -/
def execRdPpudata (_ : Addr) (s : State) : Outcome := answerByte (ppuRead 7 s)

/-- RD_OAMDMA (R212). -/
def execRdOamdma (s : State) : Outcome := answerByte (readZero s)

/-- RD_INPUT (R213). -/
def execRdInput (s : State) : Outcome := answerByte (readInput s)

/-- RD_UNMAPPED (R215). -/
def execRdUnmapped (_ : Addr) (s : State) : Outcome := answerByte (readZero s)

/-- RD_PRG (R217). -/
def execRdPrg (a : Addr) (s : State) : Outcome := answerByte (readPrg a s)

/-! ### The meanings of the bus writes -/

/-- WR_RAM (R195). -/
def execWrRam (a : Addr) (b : Byte) (s : State) : Outcome := finish (writeRam a b s)

/-- WR_PPUCTRL (R197). -/
def execWrPpuctrl (_ : Addr) (b : Byte) (s : State) : Outcome := finish (writeReg 0 b s)

/-- WR_PPUMASK (R199). -/
def execWrPpumask (_ : Addr) (b : Byte) (s : State) : Outcome := finish (writeReg 1 b s)

/-- WR_PPUSTATUS (R201). -/
def execWrPpustatus (_ : Addr) (b : Byte) (s : State) : Outcome := finish (writeReg 2 b s)

/-- WR_OAMADDR (R203). -/
def execWrOamaddr (_ : Addr) (b : Byte) (s : State) : Outcome := finish (writeReg 3 b s)

/-- WR_OAMDATA (R205). -/
def execWrOamdata (_ : Addr) (b : Byte) (s : State) : Outcome := finish (writeReg 4 b s)

/-- WR_PPUSCROLL (R207). -/
def execWrPpuscroll (_ : Addr) (b : Byte) (s : State) : Outcome := finish (writeReg 5 b s)

/-- WR_PPUADDR (R209). -/
def execWrPpuaddr (_ : Addr) (b : Byte) (s : State) : Outcome := finish (writeReg 6 b s)

/-- WR_PPUDATA (R211). -/
def execWrPpudata (_ : Addr) (b : Byte) (s : State) : Outcome := finish (writeReg 7 b s)

/-- WR_OAMDMA (44_bus_dma_tick_irq.md R231). -/
def execWrOamdma (p : Byte) (s : State) : Outcome := finish (oamDma p s)

/-- WR_INPUT (R214). -/
def execWrInput (b : Byte) (s : State) : Outcome := finish (writeInput b s)

/-- WR_UNMAPPED (R216; log 19): "No state change; no collaborator is called." -/
def execWrUnmapped (_ : Addr) (_ : Byte) (s : State) : Outcome := finish s

/-- WR_PRG (R218). -/
def execWrPrg (a : Addr) (b : Byte) (s : State) : Outcome := finish (writePrg a b s)

end Sys2Proof.Machine
end

