-- ==== Sys2Proof/Machine/Timer.lean ====
section
/-! DEFINITION. The scanline/dot timer (42_ppu_timing.md): one PPU_STEP performs the events of the position it finds and then
advances (R171; log 12). -/

namespace Sys2Proof.Machine

/-- Scanline 261, dot 1: clear the three status flags (R172). -/
def preRenderEvent (p : Ppu) : Ppu :=
  if p.scanline = Config.prerender ∧ p.dot = 1 then
    { p with inVblank := false, spriteZeroHit := false, spriteOverflow := false }
  else p

/-- What the position raises: NMI at scanline 241, dot 1 when the control byte enables it (R173). -/
def positionRaises (p : Ppu) : Slot :=
  if p.scanline = Config.vblankLine ∧ p.dot = 1 ∧ nmiEnabled p.ctrl = true then some .nmi else none

/-- Scanline 241, dot 1: set `in_vblank` and raise (R173). -/
def vblankEvent (p : Ppu) : Ppu :=
  if p.scanline = Config.vblankLine ∧ p.dot = 1 then raisePpu (positionRaises p) { p with inVblank := true } else p

/-- Dot 257 of a visible or the pre-render scanline, rendering enabled: the horizontal copy (R174). -/
def horizontalEvent (p : Ppu) : Ppu :=
  if renderingEnabled p = true ∧ isRenderLine p.scanline = true ∧ p.dot = 257 then { p with v := setH p.v p.t } else p

/-- Dots 280 to 304 of the pre-render scanline, rendering enabled: the vertical copy (R175). -/
def verticalEvent (p : Ppu) : Ppu :=
  if renderingEnabled p = true ∧ p.scanline = Config.prerender ∧ 280 ≤ p.dot ∧ p.dot ≤ 304 then
    { p with v := setV p.v p.t }
  else p

/-- The events of the current position, in the order R171 writes them. -/
def positionEvents (p : Ppu) : Ppu := verticalEvent (horizontalEvent (vblankEvent (preRenderEvent p)))

/-- The advance to the next position (R177): on an odd frame (261, 339) goes straight to (0, 0); the parity flips at the wrap
from scanline 261 to 0 and nowhere else (log 13). -/
def advance (p : Ppu) : Ppu :=
  if p.scanline = Config.prerender ∧ p.dot = Config.dots - 2 ∧ p.oddFrame = true then
    { p with dot := 0, scanline := 0, oddFrame := !p.oddFrame }
  else if p.dot = Config.dots - 1 then
    if p.scanline = Config.prerender then { p with dot := 0, scanline := 0, oddFrame := !p.oddFrame }
    else { p with dot := 0, scanline := p.scanline + 1 }
  else { p with dot := p.dot + 1 }

/-- One dot: PPU_STEP (R171). -/
def stepPpu (p : Ppu) : Ppu := advance (positionEvents p)

/-- PPU_STEP on the direct port: returns (`raised`, `level`) and changes no Bus state (R170, R178; log 14). -/
def execPpuStep (s : State) : Outcome :=
  answer (.stepped (positionRaises s.ppu) (stepPpu s.ppu).pending) (s.setPpu (stepPpu s.ppu))

end Sys2Proof.Machine
end

