-- ==== Sys2Proof/Machine/Ports.lean ====
section
/-! DEFINITION. TICK and the interrupt and stall ports (44_bus_dma_tick_irq.md sections 2 and 3), RESET and POWER_ON
(70_reset_and_hazards.md section 1). -/

namespace Sys2Proof.Machine

/-! ### TICK -/

/-- One PPU_STEP inside TICK: a freshly raised request is latched into the Bus's slot (R233; log 14). -/
def busStep (s : State) : State := raiseBus (positionRaises s.ppu) (s.setPpu (stepPpu s.ppu))

/-- `n` steps, one after the other. -/
def busSteps (n : Nat) (s : State) : State :=
  match n with
  | 0 => s
  | k + 1 => busStep (busSteps k s)

/-- TICK(cycles) (R233): exactly `3 × cycles` steps. -/
def execTick (cycles : Nat) (s : State) : Outcome := finish (busSteps (Config.dotsPerCpuCycle * cycles) s)

/-! ### The interrupt and stall ports -/

/-- INT_PEEK (R235). -/
def execIntPeek (s : State) : Outcome := answer (.kind s.busPending) s

/-- INT_TAKE (R236). -/
def execIntTake (s : State) : Outcome := answer (.kind s.busPending) (ackBus s)

/-- DMA_PEEK (R237). -/
def execDmaPeek (s : State) : Outcome := answer (.stall s.dmaStall) s

/-- DMA_CLEAR (R238). -/
def execDmaClear (s : State) : Outcome := finish (s.setDmaStall false)

/-- PPU_INT_ACK (R240). -/
def execPpuIntAck (s : State) : Outcome := finish (s.setPpu (ackPpu s.ppu))

/-- EXT_RAISE(NMI) (R239; log 17). -/
def execExtRaiseNmi (s : State) : Outcome := finish (raiseBus (some .nmi) s)

/-- EXT_RAISE(IRQ) (R239; log 17). -/
def execExtRaiseIrq (s : State) : Outcome := finish (raiseBus (some .irq) s)

/-! ### The two lifecycle operations -/

/-- RESET (70_reset_and_hazards.md R311; log 11): exactly four fields change. -/
def execReset (s : State) : Outcome :=
  finish (s.setPpu { s.ppu with writeToggle := false, inVblank := false, scanline := 0, dot := 0 })

/-- The block's state after POWER_ON; the FrameSink and the collaborators keep theirs (R310, R265). -/
def powerOnState (s : State) : State :=
  { State.reset with sink := s.sink, mapper := s.mapper, input := s.input, commands := s.commands }

/-- POWER_ON (R310; log 3). -/
def execPowerOn (s : State) : Outcome := finish (powerOnState s)

end Sys2Proof.Machine
end

