-- ==== Sys2Proof/Machine/Rend.lean ====
section
/-! DEFINITION. The rendering port (45_collaborator_ports.md section 3; log 18) and the FrameSink (section 5; log 24). -/

namespace Sys2Proof.Machine

/-! ### Mutators -/

/-- REND_INC_X (R257). -/
def execRendIncX (s : State) : Outcome := finish (s.setPpu { s.ppu with v := incX s.ppu.v })

/-- REND_INC_Y (R258). -/
def execRendIncY (s : State) : Outcome := finish (s.setPpu { s.ppu with v := incY s.ppu.v })

/-- REND_SET_S0HIT (R259). -/
def execRendSetS0hit (s : State) : Outcome := finish (s.setPpu { s.ppu with spriteZeroHit := true })

/-- REND_SET_OVF (R260). -/
def execRendSetOvf (s : State) : Outcome := finish (s.setPpu { s.ppu with spriteOverflow := true })

/-- REND_SECOAM_WR(i, b) (R261). -/
def execRendSecoamWr (i : BitVec 5) (b : Byte) (s : State) : Outcome := finish (s.setPpu (s.ppu.storeSecondaryOam i b))

/-! ### Queries, "none of which changes state" (R256) -/

/-- Q_V. -/
def execQV (s : State) : Outcome := answer (.scroll s.ppu.v) s

/-- Q_FINEX. -/
def execQFinex (s : State) : Outcome := answer (.fineX s.ppu.fineX) s

/-- Q_OAM(i). -/
def execQOam (i : Byte) (s : State) : Outcome := answer (.byte (s.ppu.oamByte i)) s

/-- Q_SECOAM(i). -/
def execQSecoam (i : BitVec 5) (s : State) : Outcome := answer (.byte (s.ppu.secondaryOamByte i)) s

/-- Q_REG(i). -/
def execQReg (i : BitVec 3) (s : State) : Outcome := answer (.byte (s.ppu.register i)) s

/-! ### The FrameSink -/

/-- How many pixels a frame has, `WIDTH × HEIGHT` (R265). -/
def frameSize : Nat := Config.width * Config.height

/-- `pixels[cursor] <- color; cursor <- (cursor + 1) mod 61440` (R266). -/
def FrameSink.setPixel (f : FrameSink) (c : Colour) : FrameSink :=
  { pixels := f.pixels.write Config.initPixels f.cursor c, cursor := (f.cursor + 1) % frameSize }

/-- The host's read-only view: column `x`, row `y` (R267). -/
def FrameSink.pixelAt (f : FrameSink) (x y : Nat) : Colour := f.pixels.read Config.initPixels (y * Config.width + x)

/-- FS_SET_PIXEL(color) (R266). -/
def execFsSetPixel (c : Colour) (s : State) : Outcome := finish (s.setSink (s.sink.setPixel c))

end Sys2Proof.Machine
end

