-- ==== Sys2Proof/Machine/ScrollPort.lean ====
section
/-! DEFINITION. The ScrollRegister direct port (40_scrollregister.md): each operation applies one function of Operands.lean to
its target register; "the only state an operation of this file writes is its target register" (R120). -/

namespace Sys2Proof.Machine

/-- The target register becomes `x`. -/
def putScroll (r : ScrollTarget) (x : Scroll) (s : State) : Outcome := finish (s.setPpu (s.ppu.setScroll r x))

/-- SR_INC_X (R121). -/
def execSrIncX (r : ScrollTarget) (s : State) : Outcome := putScroll r (incX (s.ppu.scroll r)) s

/-- SR_INC_Y (R122). -/
def execSrIncY (r : ScrollTarget) (s : State) : Outcome := putScroll r (incY (s.ppu.scroll r)) s

/-- SR_SET_H (R123): the source is the other register. -/
def execSrSetH (r : ScrollTarget) (s : State) : Outcome :=
  putScroll r (setH (s.ppu.scroll r) (s.ppu.scroll (otherTarget r))) s

/-- SR_SET_V (R124): the source is the other register. -/
def execSrSetV (r : ScrollTarget) (s : State) : Outcome :=
  putScroll r (setV (s.ppu.scroll r) (s.ppu.scroll (otherTarget r))) s

/-- SR_RAW (R126). -/
def execSrRaw (r : ScrollTarget) (s : State) : Outcome := answer (.scroll (s.ppu.scroll r)) s

/-- SR_BUMP with amount 1 (R125). -/
def execSrBump1 (r : ScrollTarget) (s : State) : Outcome := putScroll r (bump 1 (s.ppu.scroll r)) s

/-- SR_BUMP with amount 32 (R125). -/
def execSrBump32 (r : ScrollTarget) (s : State) : Outcome := putScroll r (bump 32 (s.ppu.scroll r)) s

/-- SR_SET_RAW (R127). -/
def execSrSetRaw (r : ScrollTarget) (x : Scroll) (s : State) : Outcome := putScroll r x s

end Sys2Proof.Machine
end

