-- ==== Sys2Proof/Machine/Dispatch.lean ====
section
/-! DEFINITION. The dispatch: one arm per constructor of `Instr`. -/

namespace Sys2Proof.Machine

def exec (i : Instr) (s : State) : Host.Outcome State Fault Refusal :=
  match i with
  -- bus transactions
  | .rdRam a => Sys2Proof.Machine.execRdRam a s
  | .wrRam a b => Sys2Proof.Machine.execWrRam a b s
  | .rdPpuctrl a => Sys2Proof.Machine.execRdPpuctrl a s
  | .wrPpuctrl a b => Sys2Proof.Machine.execWrPpuctrl a b s
  | .rdPpumask a => Sys2Proof.Machine.execRdPpumask a s
  | .wrPpumask a b => Sys2Proof.Machine.execWrPpumask a b s
  | .rdPpustatus a => Sys2Proof.Machine.execRdPpustatus a s
  | .wrPpustatus a b => Sys2Proof.Machine.execWrPpustatus a b s
  | .rdOamaddr a => Sys2Proof.Machine.execRdOamaddr a s
  | .wrOamaddr a b => Sys2Proof.Machine.execWrOamaddr a b s
  | .rdOamdata a => Sys2Proof.Machine.execRdOamdata a s
  | .wrOamdata a b => Sys2Proof.Machine.execWrOamdata a b s
  | .rdPpuscroll a => Sys2Proof.Machine.execRdPpuscroll a s
  | .wrPpuscroll a b => Sys2Proof.Machine.execWrPpuscroll a b s
  | .rdPpuaddr a => Sys2Proof.Machine.execRdPpuaddr a s
  | .wrPpuaddr a b => Sys2Proof.Machine.execWrPpuaddr a b s
  | .rdPpudata a => Sys2Proof.Machine.execRdPpudata a s
  | .wrPpudata a b => Sys2Proof.Machine.execWrPpudata a b s
  | .rdOamdma => Sys2Proof.Machine.execRdOamdma s
  | .wrOamdma p => Sys2Proof.Machine.execWrOamdma p s
  | .rdInput => Sys2Proof.Machine.execRdInput s
  | .wrInput b => Sys2Proof.Machine.execWrInput b s
  | .rdUnmapped a => Sys2Proof.Machine.execRdUnmapped a s
  | .wrUnmapped a b => Sys2Proof.Machine.execWrUnmapped a b s
  | .rdPrg a => Sys2Proof.Machine.execRdPrg a s
  | .wrPrg a b => Sys2Proof.Machine.execWrPrg a b s
  -- tick
  | .tick cycles => Sys2Proof.Machine.execTick cycles s
  -- lifecycle and the interrupt and stall ports
  | .reset => Sys2Proof.Machine.execReset s
  | .powerOn => Sys2Proof.Machine.execPowerOn s
  | .intPeek => Sys2Proof.Machine.execIntPeek s
  | .intTake => Sys2Proof.Machine.execIntTake s
  | .dmaPeek => Sys2Proof.Machine.execDmaPeek s
  | .dmaClear => Sys2Proof.Machine.execDmaClear s
  | .ppuIntAck => Sys2Proof.Machine.execPpuIntAck s
  | .extRaiseNmi => Sys2Proof.Machine.execExtRaiseNmi s
  | .extRaiseIrq => Sys2Proof.Machine.execExtRaiseIrq s
  -- rendering port
  | .rendIncX => Sys2Proof.Machine.execRendIncX s
  | .rendIncY => Sys2Proof.Machine.execRendIncY s
  | .rendSetS0hit => Sys2Proof.Machine.execRendSetS0hit s
  | .rendSetOvf => Sys2Proof.Machine.execRendSetOvf s
  | .rendSecoamWr j b => Sys2Proof.Machine.execRendSecoamWr j b s
  | .qV => Sys2Proof.Machine.execQV s
  | .qFinex => Sys2Proof.Machine.execQFinex s
  | .qOam j => Sys2Proof.Machine.execQOam j s
  | .qSecoam j => Sys2Proof.Machine.execQSecoam j s
  | .qReg j => Sys2Proof.Machine.execQReg j s
  -- direct PPU port
  | .ppuStep => Sys2Proof.Machine.execPpuStep s
  | .ppuRegRd j => Sys2Proof.Machine.execPpuRegRd j s
  | .ppuRegWr j b => Sys2Proof.Machine.execPpuRegWr j b s
  -- ScrollRegister direct port
  | .srIncX r => Sys2Proof.Machine.execSrIncX r s
  | .srIncY r => Sys2Proof.Machine.execSrIncY r s
  | .srSetH r => Sys2Proof.Machine.execSrSetH r s
  | .srSetV r => Sys2Proof.Machine.execSrSetV r s
  | .srRaw r => Sys2Proof.Machine.execSrRaw r s
  | .srBump1 r => Sys2Proof.Machine.execSrBump1 r s
  | .srBump32 r => Sys2Proof.Machine.execSrBump32 r s
  | .srSetRaw r x => Sys2Proof.Machine.execSrSetRaw r x s
  -- FrameSink
  | .fsSetPixel c => Sys2Proof.Machine.execFsSetPixel c s

end Sys2Proof.Machine
end

