-- ==== Sys2Proof/Machine/Step.lean ====
section
/-! DEFINITION. One step: the block takes the next command word that waits, and runs the operation it spells
(30_encoding.md R90; log 1). -/

namespace Sys2Proof.Machine

/-- One step. With no command waiting the block waits: nothing changes (10_state.md R50: "it waits for the next operation";
log 30). A word that spells no operation is refused with the decoder's reason (R117). -/
def step (s : State) : Host.Outcome State Fault Refusal :=
  match s.commands with
  | [] => .next s
  | w :: rest =>
    match decode w with
    | .error e => .refused (.noOperation e)
    | .ok i => exec i (s.setCommands rest)

/-- The state in which the very next step takes the given command word; what waited before waits behind it (log 1). -/
def State.withFetchWord (s : State) (nbits w : Nat) : State :=
  s.setCommands (BitVec.ofNat 32 (w % 2 ^ nbits) :: s.commands)

/-- The operations of a list, one after the other (20_memory.md R74: "operations take effect one at a time in the order the
agents issue them"). -/
def execAll (is : List Instr) (s : State) : Host.Outcome State Fault Refusal :=
  match is with
  | [] => .next s
  | i :: rest =>
    match exec i s with
    | .next t => execAll rest t
    | .fault r => .fault r
    | .refused r => .refused r

end Sys2Proof.Machine
end

