-- ==== Sys2Proof/Machine/Pseudo.lean ====
section
/-! DEFINITION. The pseudo-operations of 30_encoding.md R113: "each an abbreviation of the lines shown and nothing more". -/

namespace Sys2Proof.Machine

/-- The high byte of a 16-bit operand `$hhll`. -/
def highByte (a : Addr) : Byte := a.extractLsb' 8 8

/-- The low byte of a 16-bit operand `$hhll`. -/
def lowByte (a : Addr) : Byte := a.extractLsb' 0 8

/-- `SETADDR $hhll`: `RD $2002`; `WR $2006, $hh`; `WR $2006, $ll`. -/
def setAddrOps (a : Addr) : List Instr :=
  [.rdPpustatus 0x2002, .wrPpuaddr 0x2006 (highByte a), .wrPpuaddr 0x2006 (lowByte a)]

/-- The operations a pseudo-operation stands for. -/
def expandPseudo (p : Pseudo) : List Instr :=
  match p with
  | .setAddr a => setAddrOps a
  | .setScroll x y => [.rdPpustatus 0x2002, .wrPpuscroll 0x2005 x, .wrPpuscroll 0x2005 y]
  | .vpoke a b => setAddrOps a ++ [.wrPpudata 0x2007 b]
  | .vpeek a => setAddrOps a ++ [.rdPpudata 0x2007, .rdPpudata 0x2007]
  | .oamDma p => [.wrOamdma p]
  | .dots3 n => [.tick n]

end Sys2Proof.Machine
end

