-- ==== Sys2Proof/Safety.lean ====
section
/-! DEFINITION. What counts as a good state of the block, in the terms claims use: the invariants of 10_state.md R47, which
"hold after POWER_ON and are kept by every operation", and the position never processed on an odd frame (42_ppu_timing.md
R177). The widths R47 names (`v`, `t`, `oam_addr`, `fine_x`) are the fields' types. -/

namespace Sys2Proof.Machine

/-- The invariant of the PPU part. -/
structure Ppu.Inv (p : Ppu) : Prop where
  /-- "`scanline <= 261`" -/
  scanline_le : p.scanline ≤ Config.prerender
  /-- "`dot <= 340`" -/
  dot_lt : p.dot < Config.dots
  /-- "position (261, 340) is never processed in an odd frame" (R177) -/
  not_skipped : ¬(p.scanline = Config.prerender ∧ p.dot = Config.dots - 1 ∧ p.oddFrame = true)
  /-- "`show_background = registers[1][3]`" -/
  background : p.showBackground = maskShowsBackground p.mask
  /-- "`show_sprites = registers[1][4]`" -/
  sprites : p.showSprites = maskShowsSprites p.mask
  /-- "no rule ever sets it to IRQ" (R46) -/
  pending_ne_irq : p.pending ≠ some .irq
  /-- `oam` is in canonical form inside its 256 bytes. -/
  oam_wf : p.oam.wf Config.initOam Config.oamSize = true
  /-- `secondary_oam` is in canonical form inside its 32 bytes. -/
  secondaryOam_wf : p.secondaryOam.wf Config.initSecondaryOam Config.secondaryOamSize = true
  /-- `vram` is in canonical form inside its 16384 bytes. -/
  vram_wf : p.vram.wf Config.initVram Config.vramSize = true

/-- The invariant of the state. -/
structure State.Inv (s : State) : Prop where
  /-- `ram` is in canonical form inside its 2048 bytes. -/
  ram_wf : s.ram.wf Config.initRam Config.ramSize = true
  /-- The PPU part's invariant. -/
  ppu : s.ppu.Inv
  /-- "`cursor` in 0 to 61439" (45_collaborator_ports.md R265) -/
  cursor_lt : s.sink.cursor < frameSize
  /-- `pixels` is in canonical form inside its 61440 places. -/
  pixels_wf : s.sink.pixels.wf Config.initPixels frameSize = true

end Sys2Proof.Machine
end

