-- ==== Sys2Proof/Certificates/Slice0/Obligations.lean ====
section
/-! DEFINITION. The statements for the provers, one `def Obligations.<Name> : Prop` each; OBLIGATIONS.json lists them in this
order. A statement about a next state says the frame by writing the next state as the old one with only the named fields
changed; such a frame covers the model's own fields too: the waiting commands (log 1), the reply (log 2) and the records of
the collaborators' calls (log 5, log 6). A statement about every address of a term holds for the addresses outside the
operation's set as well, where exec does the same (log 25); no step reaches those. -/

open Sys2Proof Sys2Proof.Machine

/-! ### Encoding -/

/-- For every well-formed operation, of every family and with every operand the command word can carry, decoding its
encoding gives exactly that operation. The command words are the spec's own decision D2 (log 23). (30_encoding.md
section 7 (canonical words, decision D2), 30_encoding.md sections 1, 2 and 5, log 23) -/
def Obligations.DecodeInvertsEncode : Prop :=
  ∀ i : Instr, wellFormed i = true → decode (encode i) = .ok i

/-- If the decoder accepts a 32-bit word, the operation it gives is well-formed and encodes to that very word. The command
words are the spec's own decision D2 (log 23). (30_encoding.md section 7 (canonical words, decision D2), log 23) -/
def Obligations.EncodeInvertsDecode : Prop :=
  ∀ (w : Command) (i : Instr), decode w = .ok i → wellFormed i = true ∧ encode i = w

/-- For every 32-bit word, the list of the mnemonics of the opcode-table rows it matches is the one mnemonic of the
decoded operation, or empty when the decoder refuses the word. The table and the words are the spec's own decision D2
(log 23). (30_encoding.md sections 1, 2 and 7 (decisions D2 and D27), opcode_table.json, log 23) -/
def Obligations.EveryWordSelectsOneRowOrIsRefused : Prop :=
  ∀ w : Command,
    (opcodeRows.filter (rowMatches w)).map OpcodeRow.mnemonic =
      match decode w with
      | .ok i => [mnemonic i]
      | .error _ => []

/-- A word of a reserved op, of a reserved sub, with a raise kind other than 1 or 2, with a bump amount other than 1 or
32, or with a non-zero unused field or unused part of a field is refused under exactly that reason. The refusals are
the spec's own decision D27, the names of the reasons the model's (log 23). (30_encoding.md section 7 (decision D27),
30_encoding.md section 5, log 23) -/
def Obligations.UnspelledWordsAreRefusedByReason : Prop :=
  ∀ w : Command,
    (9 ≤ (opField w).toNat → decode w = .error (.reservedOp (opField w))) ∧
    (opField w = 4 → subField w ≠ 1 → subField w ≠ 2 → decode w = .error (.raiseKind (subField w))) ∧
    (opField w = 7 → subField w = 4 → dField w ≠ 1 → dField w ≠ 32 → decode w = .error (.bumpAmount (dField w))) ∧
    ((opField w = 3 ∧ 7 ≤ (subField w).toNat) ∨
        (opField w = 5 ∧ ((5 ≤ (subField w).toNat ∧ (subField w).toNat ≤ 7) ∨ 13 ≤ (subField w).toNat)) ∨
        (opField w = 6 ∧ 3 ≤ (subField w).toNat) ∨ (opField w = 7 ∧ 7 ≤ (subField w).toNat) →
      decode w = .error (.reservedSub (opField w) (subField w))) ∧
    (((opField w).toNat ≤ 2 ∨ opField w = 8) ∧ subField w ≠ 0 →
      decode w = .error (.unusedField (opField w) (subField w))) ∧
    ((opField w = 0 ∨ opField w = 2) ∧ dField w ≠ 0 → decode w = .error (.unusedField (opField w) (subField w))) ∧
    ((opField w = 3 ∧ (subField w).toNat ≤ 6 ∨ opField w = 4 ∧ (subField w = 1 ∨ subField w = 2) ∨
          opField w = 5 ∧ ((subField w).toNat ≤ 3 ∨ subField w = 8 ∨ subField w = 9) ∨
          opField w = 6 ∧ subField w = 0) ∧
        (aField w ≠ 0 ∨ dField w ≠ 0) →
      decode w = .error (.unusedField (opField w) (subField w))) ∧
    ((opField w = 5 ∧ (subField w = 4 ∧ 32 ≤ (aField w).toNat ∨
            subField w = 10 ∧ (256 ≤ (aField w).toNat ∨ dField w ≠ 0) ∨
            subField w = 11 ∧ (32 ≤ (aField w).toNat ∨ dField w ≠ 0) ∨
            subField w = 12 ∧ (8 ≤ (aField w).toNat ∨ dField w ≠ 0)) ∨
        opField w = 6 ∧ (subField w = 1 ∧ (8 ≤ (aField w).toNat ∨ dField w ≠ 0) ∨
            subField w = 2 ∧ 8 ≤ (aField w).toNat) ∨
        opField w = 7 ∧ (((subField w).toNat ≤ 3 ∨ subField w = 5) ∧
              ((aField w).toNat % 0x8000 ≠ 0 ∨ dField w ≠ 0) ∨
            subField w = 4 ∧ (dField w = 1 ∨ dField w = 32) ∧ (aField w).toNat % 0x8000 ≠ 0 ∨
            subField w = 6 ∧ dField w ≠ 0)) →
      decode w = .error (.unusedField (opField w) (subField w)))

/-- The eight accepted command words of the test vectors' section 2.8 decode to the operations given there. The command
words are the spec's own decision D2 (log 23). (95_test_vectors.md section 2.8, 30_encoding.md sections 1, 2 and 5,
92_eei_decisions.md D2, log 23) -/
def Obligations.WordsOfTheSpecDecode : Prop :=
  decode 0x003FFF00#32 = .ok (.rdPpudata 0x3FFF) ∧
  decode 0x10401402#32 = .ok (.wrOamdma 0x02) ∧
  decode 0x206B0300#32 = .ok (.tick 27395) ∧
  decode 0x7673A000#32 = .ok (.srSetRaw .v 0x73A0) ∧
  decode 0x76923400#32 = .ok (.srSetRaw .t 0x1234) ∧
  decode 0x74800020#32 = .ok (.srBump32 .t) ∧
  decode 0x5400039C#32 = .ok (.rendSecoamWr 3 0x9C) ∧
  decode 0x80FFFFFF#32 = .ok (.fsSetPixel 0xFFFFFF)

/-! ### The step -/

/-- When the first waiting command word decodes to an operation, step is exec of that operation with the word taken off
the queue; when no word waits, step changes nothing; when the word spells no operation, step is refused with the
decoder's reason. The queue is the model's own (log 1, log 30). The words and their refusal are decisions D2 and D27
(log 23). (30_encoding.md sections 1 and 7, 10_state.md section 10, log 1, log 30, 92_eei_decisions.md D2, D27, log
23) -/
def Obligations.StepRunsTheDecodedOperation : Prop :=
  (∀ (s : State) (w : Command) (rest : List Command) (i : Instr), s.commands = w :: rest → decode w = .ok i →
    step s = exec i (s.setCommands rest)) ∧
  (∀ s : State, s.commands = [] → step s = .next s) ∧
  (∀ (s : State) (w : Command) (rest : List Command) (e : Reject), s.commands = w :: rest → decode w = .error e →
    step s = .refused (.noOperation e))

/-- Whatever operation runs, the queue of waiting command words is the same afterwards: only a step takes a word off it.
The queue is the model's own (log 1). (00_scope.md section 1, 20_memory.md section 4, log 1) -/
def Obligations.OperationsLeaveTheCommandsWaiting : Prop :=
  ∀ (i : Instr) (s t : State), exec i s = .next t → t.commands = s.commands

/-- For every operation and every state exec answers a next state. A step never faults, and it is refused only when the
first waiting word is one the decoder refuses, with that reason. The refusal of a word is decision D27 (log 23), that
no operation is refused while dma_stall is set D28 (log 16). (00_scope.md section 4, 60_exceptions.md section 1,
92_eei_decisions.md D27, D28, log 16, log 23) -/
def Obligations.EveryOperationCompletes : Prop :=
  (∀ (i : Instr) (s : State), ∃ t, exec i s = .next t) ∧
  (∀ (s : State) (f : Fault), step s ≠ .fault f) ∧
  (∀ (s : State) (r : Refusal), step s = .refused r →
    ∃ w rest e, s.commands = w :: rest ∧ decode w = .error e ∧ r = .noOperation e)

/-! ### RAM -/

/-- For every address of $0000 to $1FFF, RD_RAM completes, replies the RAM byte at the address modulo 2048, and changes
nothing else. (R194) -/
def Obligations.RamReadMasksTheAddress : Prop :=
  ∀ (a : Addr) (s : State), a ≤ 0x1FFF#16 →
    exec (.rdRam a) s = .next (s.setReply (.byte (s.ram.read Config.initRam (a.toNat % 2048))))

/-- For every address of $0000 to $1FFF, WR_RAM completes, every RAM index reads as before except the address modulo 2048,
which reads the byte written, and nothing else of the state changes. (R195) -/
def Obligations.RamWriteStoresOneByte : Prop :=
  ∀ (a : Addr) (b : Byte) (s : State), a ≤ 0x1FFF#16 →
    ∃ t, exec (.wrRam a b) s = .next t ∧
      (∀ i : Nat, t.ram.read Config.initRam i = if i = a.toNat % 2048 then b else s.ram.read Config.initRam i) ∧
      t = { s with ram := t.ram, reply := .nothing }

/-- For all addresses of $0000 to $1FFF, a read of A gives what a read of A & 0x07FF gives, and after a write to one of
two addresses with the same low 11 bits a read of the other returns the byte written. (R62) -/
def Obligations.RamMirrorsShareOneByte : Prop :=
  ∀ (a x : Addr) (b : Byte) (s : State), a ≤ 0x1FFF#16 → x ≤ 0x1FFF#16 →
    exec (.rdRam a) s = exec (.rdRam (a &&& 0x07FF#16)) s ∧
    (a &&& 0x07FF#16 = x &&& 0x07FF#16 →
      ∃ t, exec (.wrRam a b) s = .next t ∧ exec (.rdRam x) t = .next (t.setReply (.byte b)))

/-! ### The PPU registers -/

/-- Reads of registers 0, 1, 3, 5, 6, of $4014 and of unmapped addresses reply 0 and change nothing; writes to register 2
and to unmapped addresses change nothing. The directions the source leaves out are the spec's decisions D13 and D30
(log 19). (41_ppu_registers.md (reads of write-only registers, write Status; decisions D13 and D30),
43_bus_dispatch.md sections 3 and 4, 92_eei_decisions.md D13, D30, log 19) -/
def Obligations.OneWayAddressesReadZeroAndIgnoreWrites : Prop :=
  ∀ (a : Addr) (b : Byte) (s : State),
    exec (.rdPpuctrl a) s = .next (s.setReply (.byte 0)) ∧
    exec (.rdPpumask a) s = .next (s.setReply (.byte 0)) ∧
    exec (.rdOamaddr a) s = .next (s.setReply (.byte 0)) ∧
    exec (.rdPpuscroll a) s = .next (s.setReply (.byte 0)) ∧
    exec (.rdPpuaddr a) s = .next (s.setReply (.byte 0)) ∧
    exec .rdOamdma s = .next (s.setReply (.byte 0)) ∧
    exec (.rdUnmapped a) s = .next (s.setReply (.byte 0)) ∧
    (∀ i : BitVec 3, i ≠ 2 → i ≠ 4 → i ≠ 7 → exec (.ppuRegRd i) s = .next (s.setReply (.byte 0))) ∧
    exec (.wrPpustatus a b) s = .next (s.setReply .nothing) ∧
    exec (.wrUnmapped a b) s = .next (s.setReply .nothing) ∧
    exec (.ppuRegWr 2 b) s = .next (s.setReply (.kind none))

/-- The Status read replies in_vblank in bit 7, sprite_zero_hit in bit 6, sprite_overflow in bit 5 and 0 below, clears
in_vblank, write_toggle and ppu_pending, and changes nothing else, the Bus slot included. Bits 4 to 0 and the reach of
the clear are decisions D12 and D18 (log 15, log 19). That reads never write the image is decision D6 (log 21).
(41_ppu_registers.md (read Status), 90_conflicts.md C3, 92_eei_decisions.md D6, D12, D18, log 15, log 19, log 21) -/
def Obligations.StatusReadShowsAndClears : Prop :=
  ∀ (a : Addr) (s : State), ∃ r : Byte,
    exec (.rdPpustatus a) s = .next { s with
      ppu := { s.ppu with inVblank := false, writeToggle := false, pending := none }, reply := .byte r } ∧
    r.getLsbD 7 = s.ppu.inVblank ∧ r.getLsbD 6 = s.ppu.spriteZeroHit ∧ r.getLsbD 5 = s.ppu.spriteOverflow ∧
    ∀ k < 5, r.getLsbD k = false

/-- The OAM data read completes in every state, replies the OAM byte at the cursor, and changes nothing, the cursor
included; rendering does not gate it. (R147, R204) -/
def Obligations.OamDataReadKeepsTheCursor : Prop :=
  ∀ (a : Addr) (s : State),
    exec (.rdOamdata a) s = .next (s.setReply (.byte (s.ppu.oam.read Config.initOam s.ppu.oamAddr.toNat)))

/-- With a = v[13:0]: in the palette region the reply is the vram byte and the buffer takes the byte PALETTE_UNDER below;
between CHR_LIMIT and the palette the reply is the old buffer and the buffer takes the vram byte; below CHR_LIMIT the
reply is the old buffer, read_chr(a) is called and the buffer takes its answer, whatever it is. v advances by 32 or 1,
modulo 2^14; nothing else changes. The bounds are the spec's parameters (D9, log 9), the address decision D11 (log
20), the answer is free (log 5). Every vram access goes through VRAM_FOLD (D10, log 10); palette bytes are 8 bits wide
by D29 (log 20). That reads never write the image, and that the increment is taken from the stored control byte, is
decision D6 (log 21), the address given to read_chr D22 (log 31). (41_ppu_registers.md (read Data; decisions D9 and
D11), 45_collaborator_ports.md section 1, 92_eei_decisions.md D6, D9, D10, D11, D22, D29, log 5, log 9, log 10, log
20, log 21, log 31) -/
def Obligations.DataReadIsBufferedBelowThePalette : Prop :=
  ∀ (a : Addr) (s : State), ∃ t, exec (.rdPpudata a) s = .next t ∧
    (Config.paletteBase ≤ s.ppu.v.setWidth 14 →
      t.reply = .byte (s.ppu.vramByte (s.ppu.v.setWidth 14)) ∧
      t.ppu.readBuffer = s.ppu.vramByte (s.ppu.v.setWidth 14 - Config.paletteUnder) ∧ t.mapper = s.mapper) ∧
    (Config.chrLimit ≤ s.ppu.v.setWidth 14 → s.ppu.v.setWidth 14 < Config.paletteBase →
      t.reply = .byte s.ppu.readBuffer ∧ t.ppu.readBuffer = s.ppu.vramByte (s.ppu.v.setWidth 14) ∧
      t.mapper = s.mapper) ∧
    (s.ppu.v.setWidth 14 < Config.chrLimit →
      t.reply = .byte s.ppu.readBuffer ∧ t.mapper.calls = .readChr (s.ppu.v.setWidth 14) :: s.mapper.calls ∧
      (∀ b rest, s.mapper.answers = b :: rest → t.ppu.readBuffer = b ∧ t.mapper.answers = rest) ∧
      (s.mapper.answers = [] →
        t.ppu.readBuffer = Config.mapperAnswer t.mapper.calls ∧ t.mapper.answers = [])) ∧
    t.ppu.v.toNat = (s.ppu.v.toNat + if (s.ppu.register 0).getLsbD 2 then 32 else 1) % 0x4000 ∧
    t = { s with ppu := { s.ppu with v := t.ppu.v, readBuffer := t.ppu.readBuffer }, mapper := t.mapper, reply := t.reply }

/-- With a = v[13:0]: at or above CHR_LIMIT the byte is stored at VRAM_FOLD(a), every other vram byte reads as before and
no collaborator is called; below it write_chr(a, b) is called and vram is unchanged. The image element 7 takes the
byte, v advances by 32 or 1 modulo 2^14, the buffer and everything else are unchanged. Bounds and address are the
spec's parameters and decisions (log 9, log 10, log 20). That the image takes the byte is decision D6 (log 21). The
record of the call is the model's (log 5), the address given to write_chr decision D22 (log 31). (41_ppu_registers.md
(write Data; decisions D9, D11 and D29), 20_memory.md section 1, 92_eei_decisions.md D6, D9, D10, D11, D22, D29, log
5, log 9, log 10, log 20, log 21, log 31) -/
def Obligations.DataWriteReachesVramOrTheMapper : Prop :=
  ∀ (a : Addr) (b : Byte) (s : State), ∃ t, exec (.wrPpudata a b) s = .next t ∧
    (∀ x : PpuAddr, t.ppu.vramByte x =
      if Config.chrLimit ≤ s.ppu.v.setWidth 14 ∧ Config.vramFold x = Config.vramFold (s.ppu.v.setWidth 14) then b
      else s.ppu.vramByte x) ∧
    (Config.chrLimit ≤ s.ppu.v.setWidth 14 → t.mapper = s.mapper) ∧
    (s.ppu.v.setWidth 14 < Config.chrLimit →
      t.mapper = { s.mapper with calls := .writeChr (s.ppu.v.setWidth 14) b :: s.mapper.calls } ∧ t.ppu.vram = s.ppu.vram) ∧
    (∀ i, t.ppu.register i = if i = 7 then b else s.ppu.register i) ∧
    t.ppu.v.toNat = (s.ppu.v.toNat + if (s.ppu.register 0).getLsbD 2 then 32 else 1) % 0x4000 ∧
    t = { s with
      ppu := { s.ppu with registers := t.ppu.registers, v := t.ppu.v, vram := t.ppu.vram }
      mapper := t.mapper
      reply := .nothing }

/-- PPU_REG_WR of register 0 completes; the image element 0 takes the byte; t[11:10] takes its low two bits and no other
bit of t changes; if the NMI-enable bit goes from 0 to 1 while in_vblank, ppu_pending becomes NMI and the reply is
NMI, otherwise the slot is unchanged and the reply is None; nothing else changes. That the image takes the byte is
decision D6 (log 21). That only the edge raises is the resolution of C2 (log 22). That the raise goes into ppu_pending
and the direct port leaves the Bus slot alone is decision D17 (log 15). The enable bit is the parameter NMI_EN_BIT
(D7, log 7). (R142, 41_ppu_registers.md (write Control), 90_conflicts.md C2, 92_eei_decisions.md D6, D7, D17, log 7,
log 15, log 21, log 22) -/
def Obligations.DirectControlWriteRaisesOnTheEnableEdge : Prop :=
  ∀ (b : Byte) (s : State), ∃ t, exec (.ppuRegWr 0 b) s = .next t ∧
    (∀ i, t.ppu.register i = if i = 0 then b else s.ppu.register i) ∧
    (∀ k, t.ppu.t.getLsbD k =
      if k = 10 then b.getLsbD 0 else if k = 11 then b.getLsbD 1 else s.ppu.t.getLsbD k) ∧
    ((s.ppu.register 0).getLsbD Config.nmiEnBit = false ∧ b.getLsbD Config.nmiEnBit = true ∧ s.ppu.inVblank = true →
      t.ppu.pending = some .nmi ∧ t.reply = .kind (some .nmi)) ∧
    (¬((s.ppu.register 0).getLsbD Config.nmiEnBit = false ∧ b.getLsbD Config.nmiEnBit = true ∧ s.ppu.inVblank = true) →
      t.ppu.pending = s.ppu.pending ∧ t.reply = .kind none) ∧
    t = { s with
      ppu := { s.ppu with registers := t.ppu.registers, t := t.ppu.t, pending := t.ppu.pending }
      reply := t.reply }

/-- WR_PPUCTRL completes with the image, t[11:10] and both interrupt slots as the enable edge says: on the edge during
vertical blank both slots become NMI, otherwise both are unchanged; nothing else changes and nothing is returned. The
route into both slots is decision D17 (log 15), the edge reading C2 (log 22). That the image takes the byte is
decision D6 (log 21). The enable bit is the parameter NMI_EN_BIT (D7, log 7). (43_bus_dispatch.md section 3 (decision
D17), 90_conflicts.md C2, 60_exceptions.md section 2, 41_ppu_registers.md (write Control), 92_eei_decisions.md D6, D7,
log 7, log 15, log 21, log 22) -/
def Obligations.BusControlWriteRaisesInBothSlots : Prop :=
  ∀ (a : Addr) (b : Byte) (s : State), ∃ t, exec (.wrPpuctrl a b) s = .next t ∧
    (∀ i, t.ppu.register i = if i = 0 then b else s.ppu.register i) ∧
    (∀ k, t.ppu.t.getLsbD k =
      if k = 10 then b.getLsbD 0 else if k = 11 then b.getLsbD 1 else s.ppu.t.getLsbD k) ∧
    ((s.ppu.register 0).getLsbD Config.nmiEnBit = false ∧ b.getLsbD Config.nmiEnBit = true ∧ s.ppu.inVblank = true →
      t.ppu.pending = some .nmi ∧ t.busPending = some .nmi) ∧
    (¬((s.ppu.register 0).getLsbD Config.nmiEnBit = false ∧ b.getLsbD Config.nmiEnBit = true ∧ s.ppu.inVblank = true) →
      t.ppu.pending = s.ppu.pending ∧ t.busPending = s.busPending) ∧
    t = { s with
      busPending := t.busPending
      ppu := { s.ppu with registers := t.ppu.registers, t := t.ppu.t, pending := t.ppu.pending }
      reply := .nothing }

/-- The Mask write completes; show_background and show_sprites become bits 3 and 4 of the byte, the image element 1 the
byte, and nothing else changes. That the image takes the byte is decision D6 (log 21). (R143, R199,
92_eei_decisions.md D6, log 21) -/
def Obligations.MaskWriteSetsTheShowFlags : Prop :=
  ∀ (a : Addr) (b : Byte) (s : State), ∃ t, exec (.wrPpumask a b) s = .next t ∧
    (∀ i, t.ppu.register i = if i = 1 then b else s.ppu.register i) ∧
    t.ppu.showBackground = b.getLsbD 3 ∧ t.ppu.showSprites = b.getLsbD 4 ∧
    t = { s with
      ppu := { s.ppu with
        registers := t.ppu.registers, showBackground := t.ppu.showBackground, showSprites := t.ppu.showSprites }
      reply := .nothing }

/-- The OAM address write completes whether or not rendering is active; the cursor and the image element 3 become the
byte, and nothing else changes. That the image takes the byte is decision D6 (log 21). (R146, R203,
92_eei_decisions.md D6, log 21) -/
def Obligations.OamAddressWriteSetsTheCursor : Prop :=
  ∀ (a : Addr) (b : Byte) (s : State), ∃ t, exec (.wrOamaddr a b) s = .next t ∧
    (∀ i, t.ppu.register i = if i = 3 then b else s.ppu.register i) ∧
    t = { s with ppu := { s.ppu with registers := t.ppu.registers, oamAddr := b }, reply := .nothing }

/-- The OAM data write completes; the OAM byte at the cursor becomes the byte written unless a show flag is set on
scanline 0 to 239 or 261; every other OAM byte reads as before; the cursor advances by 1 modulo 256 in both cases; the
image element 4 takes the byte; nothing else changes. That the image takes the byte, a suppressed one too, is decision
D6 (log 21). (R148, R205, R45, 92_eei_decisions.md D6, log 21) -/
def Obligations.OamDataWriteIsGatedByRendering : Prop :=
  ∀ (a : Addr) (b : Byte) (s : State), ∃ t, exec (.wrOamdata a b) s = .next t ∧
    (∀ i : Nat, t.ppu.oam.read Config.initOam i =
      if i = s.ppu.oamAddr.toNat ∧
          ¬((s.ppu.scanline ≤ 239 ∨ s.ppu.scanline = 261) ∧ (s.ppu.showBackground = true ∨ s.ppu.showSprites = true))
      then b else s.ppu.oam.read Config.initOam i) ∧
    t.ppu.oamAddr.toNat = (s.ppu.oamAddr.toNat + 1) % 256 ∧
    (∀ i, t.ppu.register i = if i = 4 then b else s.ppu.register i) ∧
    t = { s with
      ppu := { s.ppu with registers := t.ppu.registers, oam := t.ppu.oam, oamAddr := t.ppu.oamAddr }
      reply := .nothing }

/-- In first-write mode t[4:0] takes bits 7:3 and fine_x bits 2:0 of the byte; in second-write mode t[14:12] takes bits
2:0 and t[9:5] bits 7:3 and fine_x is unchanged; no other bit of t changes; the toggle flips; the image element 5
takes the byte; nothing else changes. That the image takes the byte is decision D6 (log 21). (R149, R207, R101,
92_eei_decisions.md D6, log 21) -/
def Obligations.ScrollWriteIsTwoStep : Prop :=
  ∀ (a : Addr) (b : Byte) (s : State), ∃ t, exec (.wrPpuscroll a b) s = .next t ∧
    (s.ppu.writeToggle = false →
      (∀ k < 15, t.ppu.t.getLsbD k = if k < 5 then b.getLsbD (k + 3) else s.ppu.t.getLsbD k) ∧
      (∀ k < 3, t.ppu.fineX.getLsbD k = b.getLsbD k)) ∧
    (s.ppu.writeToggle = true →
      (∀ k < 15, t.ppu.t.getLsbD k =
        if 12 ≤ k then b.getLsbD (k - 12) else if 5 ≤ k ∧ k ≤ 9 then b.getLsbD (k - 2) else s.ppu.t.getLsbD k) ∧
      t.ppu.fineX = s.ppu.fineX) ∧
    (∀ i, t.ppu.register i = if i = 5 then b else s.ppu.register i) ∧
    t = { s with
      ppu := { s.ppu with
        registers := t.ppu.registers, t := t.ppu.t, fineX := t.ppu.fineX, writeToggle := !s.ppu.writeToggle }
      reply := .nothing }

/-- In first-write mode t[13:8] takes bits 5:0 of the byte, t[14] becomes 0, t[7:0] and v are unchanged; in second-write
mode t[7:0] takes the byte, t[14:8] is unchanged and v becomes all of t; the toggle flips; the image element 6 takes
the byte; nothing else changes. The first-write clause follows the resolution of C1 (log 22). That the image takes the
byte is decision D6 (log 21). (R150, R209, R102, 90_conflicts.md C1, 92_eei_decisions.md D6, log 21, log 22) -/
def Obligations.AddressWriteIsTwoStep : Prop :=
  ∀ (a : Addr) (b : Byte) (s : State), ∃ t, exec (.wrPpuaddr a b) s = .next t ∧
    (s.ppu.writeToggle = false →
      (∀ k < 15, t.ppu.t.getLsbD k =
        if k < 8 then s.ppu.t.getLsbD k else if k = 14 then false else b.getLsbD (k - 8)) ∧
      t.ppu.v = s.ppu.v) ∧
    (s.ppu.writeToggle = true →
      (∀ k < 15, t.ppu.t.getLsbD k = if k < 8 then b.getLsbD k else s.ppu.t.getLsbD k) ∧ t.ppu.v = t.ppu.t) ∧
    (∀ i, t.ppu.register i = if i = 6 then b else s.ppu.register i) ∧
    t = { s with
      ppu := { s.ppu with
        registers := t.ppu.registers, v := t.ppu.v, t := t.ppu.t, writeToggle := !s.ppu.writeToggle }
      reply := .nothing }

/-- After any sequence of writes to registers 5 and 6, through the Bus or the direct port, the toggle is its old value
flipped once per write; the Status read, RESET and POWER_ON leave it false; every other operation leaves it alone, but
for an OAM DMA from pages $20 to $3F, whose reads include Status reads; a $2005 first write followed by a $2006 write
gives fine_x from the first byte, all of t[7:0] from the second, t[14:8] unchanged, and v = t. That a DMA runs its
reads inside the one write is decision D19 (log 16), which reads are Status reads the derived R242 d. That reads of
the write-only registers leave the toggle alone is decision D30 (log 19). (R154, R242, R311, 92_eei_decisions.md D19,
log 16, 92_eei_decisions.md D30, log 19) -/
def Obligations.SharedToggleFollowsTheTwoStepWrites : Prop :=
  (∀ (ops : List Instr) (s : State),
    (∀ i ∈ ops, ∃ a b, i = .wrPpuscroll a b ∨ i = .wrPpuaddr a b ∨ i = .ppuRegWr 5 b ∨ i = .ppuRegWr 6 b) →
    ∃ t, execAll ops s = .next t ∧ t.ppu.writeToggle = (s.ppu.writeToggle ^^ decide (ops.length % 2 = 1))) ∧
  (∀ (i : Instr) (s : State), ((∃ a, i = .rdPpustatus a) ∨ i = .ppuRegRd 2 ∨ i = .reset ∨ i = .powerOn) →
    ∃ t, exec i s = .next t ∧ t.ppu.writeToggle = false) ∧
  (∀ (i : Instr) (s t : State), exec i s = .next t → t.ppu.writeToggle ≠ s.ppu.writeToggle →
    (∃ a b, i = .wrPpuscroll a b ∨ i = .wrPpuaddr a b ∨ i = .ppuRegWr 5 b ∨ i = .ppuRegWr 6 b) ∨
    (∃ a, i = .rdPpustatus a) ∨ i = .ppuRegRd 2 ∨ i = .reset ∨ i = .powerOn ∨
    ∃ p : Byte, i = .wrOamdma p ∧ 0x20#8 ≤ p ∧ p ≤ 0x3F#8) ∧
  (∀ (a x : Addr) (b c : Byte) (s : State), s.ppu.writeToggle = false →
    ∃ t, execAll [.wrPpuscroll a b, .wrPpuaddr x c] s = .next t ∧ t.ppu.v = t.ppu.t ∧ t.ppu.writeToggle = false ∧
      (∀ k < 3, t.ppu.fineX.getLsbD k = b.getLsbD k) ∧
      (∀ k < 15, t.ppu.t.getLsbD k = if k < 8 then c.getLsbD k else s.ppu.t.getLsbD k))

/-- For every address of $2000 to $3FFF: PPU_REG_RD of its register and the bus read of the address end in the same state
with the same reply; PPU_REG_WR completes, leaves the Bus slot alone and replies a kind, NMI only for register 0; the
bus write ends in the same state but for the Bus slot, into which that kind is latched, and the reply, which is
nothing. That the bus write latches the kind into the Bus slot at once and the direct port leaves that slot alone is
decision D17 (log 15). (41_ppu_registers.md (the register interface), 60_exceptions.md section 2 (routing),
30_encoding.md section 5, 92_eei_decisions.md D17, log 15) -/
def Obligations.DirectPortRunsTheBusRules : Prop :=
  ∀ (a : Addr) (b : Byte) (s : State), 0x2000#16 ≤ a → a ≤ 0x3FFF#16 →
    (∃ t, exec (.ppuRegRd (a.setWidth 3)) s = .next t ∧ exec (decodeRead a) s = .next t) ∧
    (∃ t k, exec (.ppuRegWr (a.setWidth 3) b) s = .next t ∧ t.reply = .kind k ∧ t.busPending = s.busPending ∧
      (k ≠ none → k = some .nmi ∧ a.setWidth 3 = (0 : BitVec 3)) ∧
      exec (decodeWrite a b) s = .next { t with busPending := (if k = none then t.busPending else k), reply := .nothing })

/-! ### The bus -/

/-- For every address A of $2008 to $3FFF and every byte, the step of the bus read of A equals the step of the bus read of
$2000 + (A & 7), outcome and state, and the same holds for the bus write. (R219, R63) -/
def Obligations.RegisterAccessesAreMirrored : Prop :=
  ∀ (a : Addr) (b : Byte) (s : State) (rest : List Command), 0x2008#16 ≤ a → a ≤ 0x3FFF#16 →
    step (s.setCommands (commandWord 0 0 a 0 :: rest)) =
      step (s.setCommands (commandWord 0 0 (0x2000#16 + (a &&& 7#16)) 0 :: rest)) ∧
    step (s.setCommands (commandWord 1 0 a b :: rest)) =
      step (s.setCommands (commandWord 1 0 (0x2000#16 + (a &&& 7#16)) b :: rest))

/-- The read operation an address selects is RD_RAM up to $1FFF, the read of PPU register addr & 7 up to $3FFF, the input
read at $4016, the PRG read from $4020, and a read of 0 that changes nothing elsewhere; and it always completes with
the byte and the state of BUS_READ, the operation OAM DMA calls. That the other addresses read 0 and change nothing,
$4014 included, is decisions D13 and D30 (log 19). (R190, 43_bus_dispatch.md sections 2 and 4, 92_eei_decisions.md
D13, D30, log 19) -/
def Obligations.BusReadDispatchesByAddress : Prop :=
  ∀ (a : Addr) (s : State),
    exec (decodeRead a) s = .next ((busRead a s).2.setReply (.byte (busRead a s).1)) ∧
    (a ≤ 0x1FFF#16 → exec (decodeRead a) s = exec (.rdRam a) s) ∧
    (0x2000#16 ≤ a → a ≤ 0x3FFF#16 → exec (decodeRead a) s = exec (.ppuRegRd (a.setWidth 3)) s) ∧
    (a = 0x4016#16 → exec (decodeRead a) s = exec .rdInput s) ∧
    (0x4020#16 ≤ a → exec (decodeRead a) s = exec (.rdPrg a) s) ∧
    (0x4000#16 ≤ a → a ≤ 0x401F#16 → a ≠ 0x4016#16 → exec (decodeRead a) s = .next (s.setReply (.byte 0)))

/-- The write operation an address selects is WR_RAM up to $1FFF, the write of PPU register addr & 7 up to $3FFF with its
NMI latched into the Bus slot, OAM DMA at $4014, the input write at $4016, the PRG write from $4020, and nothing
elsewhere; it returns nothing. The latch into the Bus slot is decision D17 (log 15), the write of nothing to unmapped
addresses D13 (log 19). (R191, 43_bus_dispatch.md sections 3 and 4, 92_eei_decisions.md D13, D17, log 15, log 19) -/
def Obligations.BusWriteDispatchesByAddress : Prop :=
  ∀ (a : Addr) (b : Byte) (s : State),
    exec (decodeWrite a b) s = .next ((busWrite a b s).setReply .nothing) ∧
    (a ≤ 0x1FFF#16 → exec (decodeWrite a b) s = exec (.wrRam a b) s) ∧
    (0x2000#16 ≤ a → a ≤ 0x3FFF#16 →
      ∃ t, exec (.ppuRegWr (a.setWidth 3) b) s = .next t ∧
        exec (decodeWrite a b) s = .next { t with
          busPending := (if t.reply = .kind (some .nmi) then some .nmi else s.busPending), reply := .nothing }) ∧
    (a = 0x4014#16 → exec (decodeWrite a b) s = exec (.wrOamdma b) s) ∧
    (a = 0x4016#16 → exec (decodeWrite a b) s = exec (.wrInput b) s) ∧
    (0x4020#16 ≤ a → exec (decodeWrite a b) s = exec (.wrPrg a b) s) ∧
    (0x4000#16 ≤ a → a ≤ 0x401F#16 → a ≠ 0x4014#16 → a ≠ 0x4016#16 →
      exec (decodeWrite a b) s = .next (s.setReply .nothing))

/-- RD_PRG calls read_prg with the whole address and replies its answer, whatever it is; WR_PRG calls write_prg; RD_INPUT
and WR_INPUT call the input device once each; every one completes and changes nothing else. The answer is the next one
the environment has ready, else a free value of the call history (log 5, log 6). That the address is passed whole is
decision D22 (log 31). (43_bus_dispatch.md section 4, 45_collaborator_ports.md sections 1 and 2, 92_eei_decisions.md
D22, log 5, log 6, log 31) -/
def Obligations.CollaboratorBytesPassThrough : Prop :=
  (∀ (a : Addr) (s : State), ∃ t b, exec (.rdPrg a) s = .next t ∧ t.mapper.calls = .readPrg a :: s.mapper.calls ∧
    (∀ x rest, s.mapper.answers = x :: rest → b = x ∧ t.mapper.answers = rest) ∧
    (s.mapper.answers = [] → b = Config.mapperAnswer t.mapper.calls ∧ t.mapper.answers = []) ∧
    t = { s with mapper := t.mapper, reply := .byte b }) ∧
  (∀ (a : Addr) (b : Byte) (s : State), exec (.wrPrg a b) s = .next { s with
    mapper := { s.mapper with calls := .writePrg a b :: s.mapper.calls }, reply := .nothing }) ∧
  (∀ s : State, ∃ t b, exec .rdInput s = .next t ∧ t.input.calls = .read :: s.input.calls ∧
    (∀ x rest, s.input.answers = x :: rest → b = x ∧ t.input.answers = rest) ∧
    (s.input.answers = [] → b = Config.inputAnswer t.input.calls ∧ t.input.answers = []) ∧
    t = { s with input := t.input, reply := .byte b }) ∧
  (∀ (b : Byte) (s : State), exec (.wrInput b) s = .next { s with
    input := { s.input with calls := .write b :: s.input.calls }, reply := .nothing })

/-! ### The whole machine -/

/-- If an operation changes bus_pending it is WR_PPUCTRL, TICK, INT_TAKE, EXT_RAISE_NMI, EXT_RAISE_IRQ or POWER_ON: no
read raises, and of the bus writes only the Control write does. That the direct port and PPU_STEP leave the slot alone
is decisions D17 and D16 (log 15, log 14), that a Status read and PPU_INT_ACK do D18 (log 15), that RESET does D4 (log
11), the external port D20 (log 17). (43_bus_dispatch.md section 5, 10_state.md section 2, 44_bus_dma_tick_irq.md
sections 2 and 3, 92_eei_decisions.md D4, D16, D17, D18, D20, log 11, log 14, log 15, log 17) -/
def Obligations.BusSlotMovers : Prop :=
  ∀ (i : Instr) (s t : State), exec i s = .next t → t.busPending ≠ s.busPending →
    (∃ a b, i = .wrPpuctrl a b) ∨ (∃ n, i = .tick n) ∨ i = .intTake ∨ i = .extRaiseNmi ∨ i = .extRaiseIrq ∨
      i = .powerOn

/-- After any operation other than EXT_RAISE_IRQ the Bus slot holds IRQ only if it held IRQ before, and after any
operation whatever the PPU slot holds IRQ only if it held it before. The external raise port is decision D20 (log 17).
(60_exceptions.md section 2, 10_state.md section 8, 92_eei_decisions.md D20, log 17) -/
def Obligations.IrqComesOnlyFromOutside : Prop :=
  ∀ (i : Instr) (s t : State), exec i s = .next t →
    (i ≠ .extRaiseIrq → t.busPending = some .irq → s.busPending = some .irq) ∧
    (t.ppu.pending = some .irq → s.ppu.pending = some .irq)

/-- If an operation changes scanline, dot or odd_frame it is PPU_STEP, TICK, RESET or POWER_ON; every other operation
takes no dots. That OAM DMA takes no dots is decision D19 (log 16). (10_state.md section 7, 70_reset_and_hazards.md
section 4, 92_eei_decisions.md D19, log 16) -/
def Obligations.TimerMovers : Prop :=
  ∀ (i : Instr) (s t : State), exec i s = .next t →
    (t.ppu.scanline, t.ppu.dot, t.ppu.oddFrame) ≠ (s.ppu.scanline, s.ppu.dot, s.ppu.oddFrame) →
    i = .ppuStep ∨ (∃ n, i = .tick n) ∨ i = .reset ∨ i = .powerOn

/-- ram changes only by WR_RAM, oam only by the OAM data write and OAM DMA, secondary_oam only by REND_SECOAM_WR, vram
only by the Data write, pixels and cursor only by FS_SET_PIXEL, registers[2] by nothing, dma_stall only by OAM DMA and
DMA_CLEAR, and each of these but pixels and cursor by POWER_ON too; the mapper is called only by PRG and Data accesses
and OAM DMA, the input device only by $4016 accesses and by OAM DMA from page $40. That registers[2] is written by
nothing is decision D6 (log 21), that secondary_oam is written by the rendering port alone D21 (log 18), who clears
dma_stall D19 (log 16), that RESET keeps ram, secondary_oam and dma_stall D4 (log 11), that a write to an unmapped
address calls nobody D13 (log 19), that RESET and POWER_ON leave the FrameSink alone D26 (log 24). The record of the
calls is the model's (log 5, log 6). (10_state.md sections 2, 3, 5 and 6, 45_collaborator_ports.md sections 1, 2, 3
and 5, 44_bus_dma_tick_irq.md (decision D19), 70_reset_and_hazards.md section 1 (decision D4), 92_eei_decisions.md D6,
D13, D21, D26, log 5, log 6, log 11, log 16, log 18, log 19, log 21, log 24) -/
def Obligations.MemoriesAreWrittenOnlyByTheirOperations : Prop :=
  ∀ (i : Instr) (s t : State), exec i s = .next t →
    (t.ram ≠ s.ram → (∃ a b, i = .wrRam a b) ∨ i = .powerOn) ∧
    (t.ppu.oam ≠ s.ppu.oam →
      (∃ a b, i = .wrOamdata a b) ∨ (∃ b, i = .ppuRegWr 4 b) ∨ (∃ p, i = .wrOamdma p) ∨ i = .powerOn) ∧
    (t.ppu.secondaryOam ≠ s.ppu.secondaryOam → (∃ j b, i = .rendSecoamWr j b) ∨ i = .powerOn) ∧
    (t.ppu.vram ≠ s.ppu.vram → (∃ a b, i = .wrPpudata a b) ∨ (∃ b, i = .ppuRegWr 7 b) ∨ i = .powerOn) ∧
    (t.sink ≠ s.sink → ∃ c, i = .fsSetPixel c) ∧
    (t.ppu.register 2 ≠ s.ppu.register 2 → i = .powerOn) ∧
    (t.dmaStall ≠ s.dmaStall → (∃ p, i = .wrOamdma p) ∨ i = .dmaClear ∨ i = .powerOn) ∧
    (t.mapper ≠ s.mapper →
      (∃ a, i = .rdPrg a ∨ i = .rdPpudata a) ∨ (∃ a b, i = .wrPrg a b ∨ i = .wrPpudata a b) ∨ i = .ppuRegRd 7 ∨
        (∃ b, i = .ppuRegWr 7 b) ∨ ∃ p, i = .wrOamdma p) ∧
    (t.input ≠ s.input → i = .rdInput ∨ (∃ b, i = .wrInput b) ∨ i = .wrOamdma 0x40#8)

/-! ### OAM DMA -/

/-- WR_OAMDMA of a page $00 to $1F completes in every state. Outside active rendering byte i of the page, read through the
RAM mirrors, is then in oam[(oam_addr + i) mod 256] for every i below 256; during active rendering oam is unchanged.
In both cases the cursor is back where it was, registers[4] is the last byte of the page, dma_stall is true, and
nothing else changes. That the copy is one indivisible step is decision D19 (log 16), that the image takes every byte,
suppressed or not, D6 (log 21). (R231, R242, 44_bus_dma_tick_irq.md section 1 (decision D19), 30_encoding.md section
3, 92_eei_decisions.md D6, log 16, log 21) -/
def Obligations.OamDmaCopiesARamPage : Prop :=
  ∀ (p : Byte) (s : State), p < 0x20#8 →
    ∃ t, exec (.wrOamdma p) s = .next t ∧
      (activeRendering s.ppu = false →
        (∀ i : Byte, t.ppu.oam.read Config.initOam (s.ppu.oamAddr + i).toNat =
          s.ram.read Config.initRam ((p.toNat * 256 + i.toNat) % 2048)) ∧
        (∀ x : Nat, 256 ≤ x → t.ppu.oam.read Config.initOam x = s.ppu.oam.read Config.initOam x)) ∧
      (activeRendering s.ppu = true → t.ppu.oam = s.ppu.oam) ∧
      (∀ j, t.ppu.register j =
        if j = 4 then s.ram.read Config.initRam ((p.toNat * 256 + 255) % 2048) else s.ppu.register j) ∧
      t = { s with
        dmaStall := true
        ppu := { s.ppu with registers := t.ppu.registers, oam := t.ppu.oam }
        reply := .nothing }

/-- For every page p and state WR_OAMDMA completes, and ends as this run does: for i = 0 to 255 in order, the read
operation that the address p ++ i selects, with all its side effects, and then WR_OAMDATA of the byte it replied; then
dma_stall is set. The cursor is where it was; the Bus slot, RAM, the sink, t, fine_x, secondary_oam, vram, the timer,
the show and sprite flags, and every image element but 4 are unchanged; during active rendering oam is unchanged too.
That the pairs run inside the one write, no dot passes and no cycle is counted is decision D19 (log 16). That reads
never write the image and the 256 writes write its element 4 only is decision D6 (log 21). That the Status reads of
pages $20 to $3F leave the Bus slot alone is decision D18 (log 15). (R231, R242, 44_bus_dma_tick_irq.md section 1
(decision D19), 70_reset_and_hazards.md section 3, 92_eei_decisions.md D6, D18, log 15, log 16, log 21) -/
def Obligations.OamDmaOfAnyPageKeepsTheRest : Prop :=
  ∀ (p : Byte) (s : State), ∃ t, exec (.wrOamdma p) s = .next t ∧
    (∃ f : Nat → State, f 0 = s ∧
      (∀ k < 256, ∃ r b, exec (decodeRead (p ++ BitVec.ofNat 8 k)) (f k) = .next r ∧ r.reply = .byte b ∧
        exec (.wrOamdata 0x2004 b) r = .next (f (k + 1))) ∧
      t = { f 256 with dmaStall := true, reply := .nothing }) ∧
    (activeRendering s.ppu = true → t.ppu.oam = s.ppu.oam) ∧
    (∀ j, j ≠ 4 → t.ppu.register j = s.ppu.register j) ∧
    t = { s with
      dmaStall := true
      ppu := { s.ppu with
        registers := t.ppu.registers
        v := t.ppu.v
        writeToggle := t.ppu.writeToggle
        oam := t.ppu.oam
        readBuffer := t.ppu.readBuffer
        inVblank := t.ppu.inVblank
        pending := t.ppu.pending }
      mapper := t.mapper
      input := t.input
      reply := .nothing }

/-! ### The timer -/

/-- A PPU_STEP found at (261, 1) clears the three status flags; at (241, 1) it sets in_vblank and, if the enable bit is
set, makes ppu_pending NMI and returns raised = NMI, otherwise raises nothing; at dot 257 of scanlines 0 to 239 and
261 with rendering enabled it copies t[4:0] and t[10] to v; at dots 280 to 304 of scanline 261 with rendering enabled
it copies t[14:12], t[11] and t[9:5]; at every other position it does none of these. bus_pending and write_toggle are
not touched. Acting on the position found is decision D14 (log 12), the pair (raised, level) and the untouched
bus_pending D16 (log 14), the nametable bits 10 and 11 D8 (log 8), that nothing else happens D21 (log 18). The enable
bit is the parameter NMI_EN_BIT (D7, log 7) of the stored control byte (D6, log 21). (R172, R173, R174, R175, R170,
R176, 92_eei_decisions.md D6, D7, D8, D14, D16, D21, log 7, log 8, log 12, log 14, log 18, log 21) -/
def Obligations.PositionEventsOfOneDot : Prop :=
  ∀ s : State, ∃ t raised, exec .ppuStep s = .next t ∧
    raised = (if s.ppu.scanline = 241 ∧ s.ppu.dot = 1 ∧ (s.ppu.register 0).getLsbD Config.nmiEnBit = true
      then some Kind.nmi else none) ∧
    t.reply = .stepped raised t.ppu.pending ∧
    t.ppu.pending = (if raised = none then s.ppu.pending else some .nmi) ∧
    t.ppu.inVblank = (if s.ppu.scanline = 241 ∧ s.ppu.dot = 1 then true
      else if s.ppu.scanline = 261 ∧ s.ppu.dot = 1 then false else s.ppu.inVblank) ∧
    t.ppu.spriteZeroHit = (if s.ppu.scanline = 261 ∧ s.ppu.dot = 1 then false else s.ppu.spriteZeroHit) ∧
    t.ppu.spriteOverflow = (if s.ppu.scanline = 261 ∧ s.ppu.dot = 1 then false else s.ppu.spriteOverflow) ∧
    (∀ k < 15, t.ppu.v.getLsbD k =
      if (s.ppu.showBackground = true ∨ s.ppu.showSprites = true) ∧
          (((s.ppu.scanline ≤ 239 ∨ s.ppu.scanline = 261) ∧ s.ppu.dot = 257 ∧ (k ≤ 4 ∨ k = 10)) ∨
            (s.ppu.scanline = 261 ∧ 280 ≤ s.ppu.dot ∧ s.ppu.dot ≤ 304 ∧ (12 ≤ k ∨ k = 11 ∨ (5 ≤ k ∧ k ≤ 9))))
      then s.ppu.t.getLsbD k else s.ppu.v.getLsbD k) ∧
    t.busPending = s.busPending ∧ t.ppu.writeToggle = s.ppu.writeToggle

/-- After a PPU_STEP the position is (0, 0) with the parity flipped from (261, 340), or from (261, 339) on an odd frame;
the next scanline's dot 0 from dot 340; the next dot otherwise. Everything but v, the position, the three status
flags, ppu_pending and the reply is unchanged. The order of event and advance and the unconditional skip are decisions
D14 and D15 (log 12, log 13). That a step leaves the Bus slot alone is decision D16 (log 14), that it does no
rendering D21 (log 18). That dma_stall waits for DMA_CLEAR is decision D19 (log 16); outside the timer's range the dot
counts on (log 27). (42_ppu_timing.md (advance; decisions D14 and D15), 90_conflicts.md C6, 42_ppu_timing.md (decision
D21), 92_eei_decisions.md D16, D19, log 12, log 13, log 14, log 16, log 18, log 27) -/
def Obligations.StepAdvancesOnePosition : Prop :=
  ∀ s : State, ∃ t, exec .ppuStep s = .next t ∧
    (t.ppu.scanline, t.ppu.dot, t.ppu.oddFrame) =
      (if s.ppu.scanline = 261 ∧ s.ppu.dot = 339 ∧ s.ppu.oddFrame = true then (0, 0, false)
      else if s.ppu.dot = 340 then
        (if s.ppu.scanline = 261 then (0, 0, !s.ppu.oddFrame) else (s.ppu.scanline + 1, 0, s.ppu.oddFrame))
      else (s.ppu.scanline, s.ppu.dot + 1, s.ppu.oddFrame)) ∧
    t = { s with
      ppu := { s.ppu with
        v := t.ppu.v
        scanline := t.ppu.scanline
        dot := t.ppu.dot
        oddFrame := t.ppu.oddFrame
        inVblank := t.ppu.inVblank
        spriteZeroHit := t.ppu.spriteZeroHit
        spriteOverflow := t.ppu.spriteOverflow
        pending := t.ppu.pending }
      reply := t.reply }

/-- From every state at position (0, 0) with odd_frame false, TICK 59561 (3 × 59561 = 178683 = 89342 + 89341 steps) ends
at position (0, 0) with odd_frame false. The odd-frame skip is decision D15 (log 13). (R180, 42_ppu_timing.md (frame
arithmetic; decisions D14 and D15), log 12, log 13) -/
def Obligations.TwoFramesTake178683Dots : Prop :=
  ∀ s : State, s.ppu.scanline = 0 → s.ppu.dot = 0 → s.ppu.oddFrame = false →
    ∃ t, exec (.tick 59561) s = .next t ∧ t.ppu.scanline = 0 ∧ t.ppu.dot = 0 ∧ t.ppu.oddFrame = false

/-- From every state at position (0, 0) and for every n up to 29668, TICK n ends at position (3n div 341, 3n mod 341); up
to n = 27394, position (241, 1), in_vblank and both slots are as before; from n = 27395, position (241, 4), to 29667
in_vblank is true, at n = 29668, position (261, 3), it is false; from 27395 on both slots are NMI if the control byte
enables it and as before if not; sprite_zero_hit and sprite_overflow are as before up to 29667 and false at 29668. The
exact dot is decision D14 (log 12), the latch decision D16 (log 14). That TICK alone leaves the sprite flags until
they are cleared is decision D21 (log 18). The enable bit is the parameter NMI_EN_BIT (D7, log 7) of the stored
control byte (D6, log 21). (R180, 42_ppu_timing.md (frame arithmetic; decision D14), 44_bus_dma_tick_irq.md section 2
(decision D16), 92_eei_decisions.md D6, D7, D21, log 7, log 12, log 14, log 18, log 21) -/
def Obligations.VerticalBlankTimeline : Prop :=
  ∀ (s : State) (n : Nat), s.ppu.scanline = 0 → s.ppu.dot = 0 → n ≤ 29668 →
    ∃ t, exec (.tick n) s = .next t ∧ (t.ppu.scanline, t.ppu.dot) = (3 * n / 341, 3 * n % 341) ∧
      t.ppu.inVblank = (if n ≤ 27394 then s.ppu.inVblank else decide (n ≤ 29667)) ∧
      (n ≤ 27394 ∨ (s.ppu.register 0).getLsbD Config.nmiEnBit = false →
        t.ppu.pending = s.ppu.pending ∧ t.busPending = s.busPending) ∧
      (27395 ≤ n → (s.ppu.register 0).getLsbD Config.nmiEnBit = true →
        t.ppu.pending = some .nmi ∧ t.busPending = some .nmi) ∧
      t.ppu.spriteZeroHit = (if n ≤ 29667 then s.ppu.spriteZeroHit else false) ∧
      t.ppu.spriteOverflow = (if n ≤ 29667 then s.ppu.spriteOverflow else false)

/-- TICK 0 changes nothing but the reply; TICK n completes and ends as 3 × n PPU_STEPs do, but for the Bus slot and the
reply; and every further cycle, TICK (n + 1) against TICK n, runs three more PPU_STEPs, and the Bus slot takes the
kind the last of them to raise one raised, or stays as it was when none did. That the event and not the level is
latched is decision D16 (log 14). That a tick takes any natural number is decision D24 (log 26).
(44_bus_dma_tick_irq.md section 2 (decision D16), 42_ppu_timing.md (PPU_STEP), 92_eei_decisions.md D24, log 14, log
26) -/
def Obligations.TickRunsThreeDotsPerCycle : Prop :=
  (∀ (n : Nat) (s : State), ∃ t u, exec (.tick n) s = .next t ∧
    execAll (List.replicate (3 * n) .ppuStep) s = .next u ∧
    t = { u with busPending := t.busPending, reply := .nothing }) ∧
  (∀ (n : Nat) (s : State), ∃ t u s1 s2 s3 r1 r2 r3 l1 l2 l3,
    exec (.tick n) s = .next t ∧ exec (.tick (n + 1)) s = .next u ∧
    exec .ppuStep t = .next s1 ∧ s1.reply = .stepped r1 l1 ∧
    exec .ppuStep s1 = .next s2 ∧ s2.reply = .stepped r2 l2 ∧
    exec .ppuStep s2 = .next s3 ∧ s3.reply = .stepped r3 l3 ∧
    u = { s3 with busPending := r3.or (r2.or (r1.or t.busPending)), reply := .nothing }) ∧
  (∀ s : State, exec (.tick 0) s = .next (s.setReply .nothing))

/-- TICK 0 completes and changes nothing but the reply; for all m and n, TICK m completes and TICK (m + n) from the state
before ends as TICK n from the state after it. That a tick takes any natural number is decision D24 (log 26).
(44_bus_dma_tick_irq.md section 2, 92_eei_decisions.md D24, log 26) -/
def Obligations.TicksAdd : Prop :=
  ∀ (m n : Nat) (s : State),
    exec (.tick 0) s = .next (s.setReply .nothing) ∧
    ∃ t, exec (.tick m) s = .next t ∧ exec (.tick (m + n)) s = exec (.tick n) t

/-- Any TICK completes; the Bus slot afterwards is as before or NMI, and NMI is new only if the control byte enables it;
ram, dma_stall, the sink, the collaborators, the image, t, fine_x, the toggle, oam and its cursor, secondary_oam,
vram, the read buffer and the show flags are unchanged. The event reading is decision D16 (log 14), the absence of
rendering in a step D21 (log 18). That dma_stall waits for DMA_CLEAR is decision D19 (log 16), that a tick takes any
natural number D24 (log 26). The enable bit is the parameter NMI_EN_BIT (D7, log 7) of the stored control byte (D6,
log 21). (44_bus_dma_tick_irq.md section 2 (decision D16), 42_ppu_timing.md (decision D21), 60_exceptions.md section
5, 92_eei_decisions.md D6, D7, D19, D24, log 7, log 14, log 16, log 18, log 21, log 26) -/
def Obligations.TickLatchesOnlyFreshNmi : Prop :=
  ∀ (n : Nat) (s : State), ∃ t, exec (.tick n) s = .next t ∧
    (t.busPending = s.busPending ∨
      (t.busPending = some .nmi ∧ (s.ppu.register 0).getLsbD Config.nmiEnBit = true)) ∧
    t = { s with
      busPending := t.busPending
      ppu := { s.ppu with
        v := t.ppu.v
        scanline := t.ppu.scanline
        dot := t.ppu.dot
        oddFrame := t.ppu.oddFrame
        inVblank := t.ppu.inVblank
        spriteZeroHit := t.ppu.spriteZeroHit
        spriteOverflow := t.ppu.spriteOverflow
        pending := t.ppu.pending }
      reply := .nothing }

/-! ### The interrupt and stall ports, reset -/

/-- INT_PEEK replies bus_pending and DMA_PEEK replies dma_stall, in every state, and neither changes anything else. (R235,
R237) -/
def Obligations.PeeksChangeNothing : Prop :=
  ∀ s : State,
    exec .intPeek s = .next (s.setReply (.kind s.busPending)) ∧
    exec .dmaPeek s = .next (s.setReply (.stall s.dmaStall))

/-- INT_TAKE replies the Bus slot and empties it; DMA_CLEAR clears the stall flag; PPU_INT_ACK empties the PPU slot;
EXT_RAISE overwrites the Bus slot with its kind; each changes nothing else. What each reaches is decision D18, who
clears the flag D19, the external port D20 (log 15, log 16, log 17). (44_bus_dma_tick_irq.md section 3 (decisions D18,
D19 and D20), log 15, log 16, log 17) -/
def Obligations.TakesClearsAndRaises : Prop :=
  ∀ s : State,
    exec .intTake s = .next { s with busPending := none, reply := .kind s.busPending } ∧
    exec .dmaClear s = .next { s with dmaStall := false, reply := .nothing } ∧
    exec .ppuIntAck s = .next { s with ppu := { s.ppu with pending := none }, reply := .nothing } ∧
    exec .extRaiseNmi s = .next { s with busPending := some .nmi, reply := .nothing } ∧
    exec .extRaiseIrq s = .next { s with busPending := some .irq, reply := .nothing }

/-- For every list of kinds raised one after the other from any state, ending in kind k, INT_TAKE replies k, and a second
INT_TAKE replies None and changes nothing. The raise port is decision D20 (log 17). (44_bus_dma_tick_irq.md section 3
(single-slot law), 60_exceptions.md section 3, 92_eei_decisions.md D20, log 17) -/
def Obligations.OnlyTheLastRaiseIsTaken : Prop :=
  ∀ (ks : List Kind) (k : Kind) (s : State),
    ∃ t, execAll ((ks ++ [k]).map (fun x => match x with | .nmi => Instr.extRaiseNmi | .irq => Instr.extRaiseIrq) ++
        [Instr.intTake]) s = .next t ∧
      t.reply = .kind (some k) ∧ exec .intTake t = .next (t.setReply (.kind none))

/-- RESET completes in every state with write_toggle and in_vblank false, scanline and dot 0, and every other field, both
interrupt slots and dma_stall included, as it was. That the fields the source does not name are kept is decision D4
(log 11). The FrameSink is left alone by decision D26 (log 24). (70_reset_and_hazards.md section 1 (decision D4),
92_eei_decisions.md D26, log 11, log 24) -/
def Obligations.ResetWritesFourFields : Prop :=
  ∀ s : State, exec .reset s = .next { s with
    ppu := { s.ppu with writeToggle := false, inVblank := false, scanline := 0, dot := 0 }, reply := .nothing }

/-- POWER_ON completes in every state; the Bus and PPU parts are those of State.reset, and the FrameSink, the mapper, the
input device and the waiting commands are as before. The power-on values are decision D3 (log 3, log 4). That the
FrameSink is left alone is decision D26 (log 24). The queue of waiting commands is the model's own (log 1), and so are
the records of the collaborators' calls (log 5, log 6). (70_reset_and_hazards.md section 1 (decision D3), 10_state.md
section 10, 45_collaborator_ports.md section 5, 92_eei_decisions.md D26, log 1, log 3, log 4, log 5, log 6, log 24) -/
def Obligations.PowerOnRestoresTheResetState : Prop :=
  ∀ s : State, ∃ t, exec .powerOn s = .next t ∧
    t.ram = [] ∧ t.busPending = none ∧ t.dmaStall = false ∧ (∀ i, t.ppu.register i = 0) ∧ t.ppu.v = 0 ∧ t.ppu.t = 0 ∧
    t.ppu.fineX = 0 ∧ t.ppu.writeToggle = false ∧ t.ppu.oam = [] ∧ t.ppu.oamAddr = 0 ∧ t.ppu.secondaryOam = [] ∧
    t.ppu.vram = [] ∧ t.ppu.readBuffer = 0 ∧ t.ppu.scanline = 0 ∧ t.ppu.dot = 0 ∧ t.ppu.oddFrame = false ∧
    t.ppu.showBackground = false ∧ t.ppu.showSprites = false ∧ t.ppu.inVblank = false ∧ t.ppu.spriteZeroHit = false ∧
    t.ppu.spriteOverflow = false ∧ t.ppu.pending = none ∧ t.sink = s.sink ∧ t.mapper = s.mapper ∧ t.input = s.input ∧
    t.commands = s.commands ∧ t.reply = .nothing

/-! ### The rendering port and the ScrollRegister port -/

/-- REND_INC_X and REND_INC_Y end as SR_INC_X and SR_INC_Y on v; REND_SET_S0HIT and REND_SET_OVF set their flag;
REND_SECOAM_WR stores one byte and every other secondary-OAM byte reads as before; each changes nothing else. The
commands are decision D21 (log 18). (45_collaborator_ports.md section 3 (decision D21), log 18) -/
def Obligations.RenderingMutatorsWriteTheirTarget : Prop :=
  (∀ s : State, ∃ t, exec .rendIncX s = .next t ∧ exec (.srIncX .v) s = .next t) ∧
  (∀ s : State, ∃ t, exec .rendIncY s = .next t ∧ exec (.srIncY .v) s = .next t) ∧
  (∀ s : State, exec .rendSetS0hit s = .next { s with ppu := { s.ppu with spriteZeroHit := true }, reply := .nothing }) ∧
  (∀ s : State, exec .rendSetOvf s = .next { s with ppu := { s.ppu with spriteOverflow := true }, reply := .nothing }) ∧
  (∀ (i : BitVec 5) (b : Byte) (s : State), ∃ t, exec (.rendSecoamWr i b) s = .next t ∧
    (∀ j : Nat, t.ppu.secondaryOam.read Config.initSecondaryOam j =
      if j = i.toNat then b else s.ppu.secondaryOam.read Config.initSecondaryOam j) ∧
    t = { s with ppu := { s.ppu with secondaryOam := t.ppu.secondaryOam }, reply := .nothing })

/-- Q_V replies v, Q_FINEX fine_x, Q_OAM(i) oam[i], Q_SECOAM(i) secondary_oam[i], Q_REG(i) registers[i], SR_RAW the target
register; each completes in every state and changes nothing else. (R256, R126) -/
def Obligations.QueriesChangeNothing : Prop :=
  ∀ s : State,
    exec .qV s = .next (s.setReply (.scroll s.ppu.v)) ∧
    exec .qFinex s = .next (s.setReply (.fineX s.ppu.fineX)) ∧
    (∀ i : Byte, exec (.qOam i) s = .next (s.setReply (.byte (s.ppu.oam.read Config.initOam i.toNat)))) ∧
    (∀ i : BitVec 5, exec (.qSecoam i) s =
      .next (s.setReply (.byte (s.ppu.secondaryOam.read Config.initSecondaryOam i.toNat)))) ∧
    (∀ i : BitVec 3, exec (.qReg i) s = .next (s.setReply (.byte (s.ppu.registers[i.toNat]'i.isLt)))) ∧
    exec (.srRaw .v) s = .next (s.setReply (.scroll s.ppu.v)) ∧
    exec (.srRaw .t) s = .next (s.setReply (.scroll s.ppu.t))

/-- SR_INC_X completes; bits 4:0 of the target become 0 when they were 31 and are incremented otherwise; the bit H_NT_BIT
flips exactly in the first case; no other bit of the target, and nothing else of the state, changes. (R121) -/
def Obligations.CoarseXIncrementWrapsAndFlips : Prop :=
  ∀ (r : ScrollTarget) (s : State), ∃ t, exec (.srIncX r) s = .next t ∧
    (t.ppu.scroll r).toNat % 32 = ((s.ppu.scroll r).toNat % 32 + 1) % 32 ∧
    (t.ppu.scroll r).getLsbD Config.hNtBit =
      ((s.ppu.scroll r).getLsbD Config.hNtBit ^^ decide ((s.ppu.scroll r).toNat % 32 = 31)) ∧
    (∀ k, 5 ≤ k → k < 15 → k ≠ Config.hNtBit → (t.ppu.scroll r).getLsbD k = (s.ppu.scroll r).getLsbD k) ∧
    t = { s with ppu := s.ppu.setScroll r (t.ppu.scroll r), reply := .nothing }

/-- SR_INC_Y completes; fine Y is incremented modulo 8; coarse Y changes only when fine Y was 7: 29 and 31 become 0, every
other value is incremented, 30 included; the bit V_NT_BIT flips exactly when fine Y was 7 and coarse Y was 29; coarse
X, the other nametable bit and everything else are unchanged. (R122) -/
def Obligations.YIncrementWrapsAtRow29 : Prop :=
  ∀ (r : ScrollTarget) (s : State), ∃ t, exec (.srIncY r) s = .next t ∧
    (t.ppu.scroll r).toNat / 4096 = ((s.ppu.scroll r).toNat / 4096 + 1) % 8 ∧
    (t.ppu.scroll r).toNat / 32 % 32 =
      (if (s.ppu.scroll r).toNat / 4096 < 7 then (s.ppu.scroll r).toNat / 32 % 32
      else if (s.ppu.scroll r).toNat / 32 % 32 = 29 ∨ (s.ppu.scroll r).toNat / 32 % 32 = 31 then 0
      else (s.ppu.scroll r).toNat / 32 % 32 + 1) ∧
    (t.ppu.scroll r).getLsbD Config.vNtBit =
      ((s.ppu.scroll r).getLsbD Config.vNtBit ^^
        decide ((s.ppu.scroll r).toNat / 4096 = 7 ∧ (s.ppu.scroll r).toNat / 32 % 32 = 29)) ∧
    (∀ k, (k < 5 ∨ (10 ≤ k ∧ k < 12 ∧ k ≠ Config.vNtBit)) →
      (t.ppu.scroll r).getLsbD k = (s.ppu.scroll r).getLsbD k) ∧
    t = { s with ppu := s.ppu.setScroll r (t.ppu.scroll r), reply := .nothing }

/-- SR_SET_H completes with bits 4:0 and H_NT_BIT of the target taken from the other register; SR_SET_V with bits 14:12,
V_NT_BIT and 9:5; every other bit of the target is kept, the source register and everything else are unchanged. (R123,
R124) -/
def Obligations.ScrollCopiesTakeTheirFields : Prop :=
  ∀ (r : ScrollTarget) (s : State),
    (∃ t, exec (.srSetH r) s = .next t ∧
      (∀ k < 15, (t.ppu.scroll r).getLsbD k =
        if k ≤ 4 ∨ k = Config.hNtBit then (s.ppu.scroll (otherTarget r)).getLsbD k else (s.ppu.scroll r).getLsbD k) ∧
      t = { s with ppu := s.ppu.setScroll r (t.ppu.scroll r), reply := .nothing }) ∧
    (∃ t, exec (.srSetV r) s = .next t ∧
      (∀ k < 15, (t.ppu.scroll r).getLsbD k =
        if 12 ≤ k ∨ k = Config.vNtBit ∨ (5 ≤ k ∧ k ≤ 9) then (s.ppu.scroll (otherTarget r)).getLsbD k
        else (s.ppu.scroll r).getLsbD k) ∧
      t = { s with ppu := s.ppu.setScroll r (t.ppu.scroll r), reply := .nothing })

/-- SR_BUMP_1 and SR_BUMP_32 complete with the target at (x + amount) mod 0x4000, which equals the byte-wise sum ((hi <<
8) | (lo & 0xFF)) & 0x3FFF with lo = x[7:0] + amount and hi = x[14:8] + (lo >> 8); bit 14 of the result is 0; nothing
else changes. That the two wordings agree is the spec's own inference, stated here. (R125, R120, 40_scrollregister.md
(SR_BUMP)) -/
def Obligations.BumpAddsModulo16384 : Prop :=
  ∀ (r : ScrollTarget) (s : State),
    (∃ t, exec (.srBump1 r) s = .next t ∧ (t.ppu.scroll r).toNat = ((s.ppu.scroll r).toNat + 1) % 0x4000 ∧
      (t.ppu.scroll r).toNat =
        ((((s.ppu.scroll r).toNat / 256 + ((s.ppu.scroll r).toNat % 256 + 1) / 256) * 256) |||
          (((s.ppu.scroll r).toNat % 256 + 1) % 256)) &&& 0x3FFF ∧
      t = { s with ppu := s.ppu.setScroll r (t.ppu.scroll r), reply := .nothing }) ∧
    (∃ t, exec (.srBump32 r) s = .next t ∧ (t.ppu.scroll r).toNat = ((s.ppu.scroll r).toNat + 32) % 0x4000 ∧
      (t.ppu.scroll r).toNat =
        ((((s.ppu.scroll r).toNat / 256 + ((s.ppu.scroll r).toNat % 256 + 32) / 256) * 256) |||
          (((s.ppu.scroll r).toNat % 256 + 32) % 256)) &&& 0x3FFF ∧
      t = { s with ppu := s.ppu.setScroll r (t.ppu.scroll r), reply := .nothing })

/-- SR_SET_RAW completes with the target register equal to the value, the other register and everything else unchanged,
and SR_RAW of the same target then replies the value. (R127) -/
def Obligations.SetRawStoresTheValue : Prop :=
  ∀ (r : ScrollTarget) (x : Scroll) (s : State), ∃ t, exec (.srSetRaw r x) s = .next t ∧
    t = { s with ppu := s.ppu.setScroll r x, reply := .nothing } ∧ t.ppu.scroll r = x ∧
    exec (.srRaw r) t = .next (t.setReply (.scroll x))

/-- On either register SR_INC_X then SR_INC_Y ends in the same state as SR_INC_Y then SR_INC_X; from a target below
0x4000, 16384 SR_BUMP_1 or 512 SR_BUMP_32 complete and end with the target as it was. (40_scrollregister.md (laws of
rule R128, parts a and d)) -/
def Obligations.ScrollIncrementsCommuteAndBumpIsCyclic : Prop :=
  ∀ (r : ScrollTarget) (s : State),
    (∃ t, execAll [.srIncX r, .srIncY r] s = .next t ∧ execAll [.srIncY r, .srIncX r] s = .next t) ∧
    ((s.ppu.scroll r).toNat < 0x4000 →
      (∃ t, execAll (List.replicate 16384 (.srBump1 r)) s = .next t ∧ t.ppu.scroll r = s.ppu.scroll r) ∧
      (∃ t, execAll (List.replicate 512 (.srBump32 r)) s = .next t ∧ t.ppu.scroll r = s.ppu.scroll r))

/-- From coarse Y = 0 and fine Y = 0, 240 applications of SR_INC_Y complete with coarse Y and fine Y 0, the
vertical-nametable bit flipped, and every other bit of the target as it was. (40_scrollregister.md (laws of rule R128,
part c)) -/
def Obligations.RowWalkOf240Increments : Prop :=
  ∀ (r : ScrollTarget) (s : State), coarseY (s.ppu.scroll r) = 0 → fineY (s.ppu.scroll r) = 0 →
    ∃ t, execAll (List.replicate 240 (.srIncY r)) s = .next t ∧
      t.ppu.scroll r = s.ppu.scroll r ^^^ BitVec.twoPow 15 Config.vNtBit

/-! ### The FrameSink and the pseudo-operations -/

/-- FS_SET_PIXEL completes; the pixel at the cursor becomes the colour and every other pixel reads as before; the cursor
advances by 1 modulo 61440; nothing else changes; and after any sequence of calls the cursor has advanced by their
number modulo 61440. (R266) -/
def Obligations.SetPixelWritesAtTheCursor : Prop :=
  (∀ (c : Colour) (s : State), ∃ t, exec (.fsSetPixel c) s = .next t ∧
    (∀ i : Nat, t.sink.pixels.read Config.initPixels i =
      if i = s.sink.cursor then c else s.sink.pixels.read Config.initPixels i) ∧
    t.sink.cursor = (s.sink.cursor + 1) % 61440 ∧
    t = { s with sink := t.sink, reply := .nothing }) ∧
  (∀ (cs : List Colour) (s : State), s.sink.cursor < 61440 →
    ∃ t, execAll (cs.map .fsSetPixel) s = .next t ∧ t.sink.cursor = (s.sink.cursor + cs.length) % 61440)

/-- From every state SETADDR completes with v and t the operand's low 14 bits and the toggle false; for an address whose
low 14 bits are at or above CHR_LIMIT and, advanced once, still below the palette region, VPOKE then VPEEK replies the
byte poked. The pseudo-operations are decision D25 (log 32), the bounds the spec's parameters (log 9). The address of
the two accesses is v[13:0], never gated, by D11 and C8 (log 20). That the two address writes leave v at the low 14
bits follows the resolution of C1 (log 22). Every vram access goes through VRAM_FOLD (D10, log 10). (30_encoding.md
section 6 (decision D25), 70_reset_and_hazards.md section 3, 20_memory.md section 4, 90_conflicts.md C1,
92_eei_decisions.md D9, D10, D11, D25, log 9, log 10, log 20, log 22, log 32) -/
def Obligations.VpokeIsSeenByVpeek : Prop :=
  ∀ (a : Addr) (b : Byte) (s : State),
    (∃ t, execAll (expandPseudo (.setAddr a)) s = .next t ∧ t.ppu.v.toNat = a.toNat % 0x4000 ∧ t.ppu.t = t.ppu.v ∧
      t.ppu.writeToggle = false) ∧
    (Config.chrLimit ≤ a.setWidth 14 →
      a.toNat % 0x4000 + (if (s.ppu.register 0).getLsbD 2 then 32 else 1) < Config.paletteBase.toNat →
      ∃ t, execAll (expandPseudo (.vpoke a b) ++ expandPseudo (.vpeek a)) s = .next t ∧ t.reply = .byte b)

/-! ### The invariant -/

/-- State.reset meets State.Inv: the timer is in range, the show flags mirror the mask byte, no slot of the PPU holds IRQ,
the FrameSink cursor is in range, and every memory is in canonical form inside its bounds. The power-on values are
decision D3 (log 3, log 4); the types of the counters and the stored show flags are the model's (log 27, log 28).
(10_state.md section 9, 10_state.md section 10, 92_eei_decisions.md D3, log 3, log 4, log 27, log 28) -/
def Obligations.ResetStateMeetsTheInvariant : Prop :=
  State.reset.Inv

/-- For every state that meets State.Inv, reachable or not, if step answers a next state, that state meets State.Inv:
scanline at most 261 and dot at most 340, never (261, 340) on an odd frame, show flags equal to mask bits 3 and 4, no
IRQ in the PPU slot, the cursor below 61440, and every memory canonical and inside its bounds. That (261, 340) is
never found on an odd frame is decision D15 (log 13), that no slot of the PPU holds IRQ D20 (log 17), that the cursor
is moved by FS_SET_PIXEL alone D26 (log 24), that the show flags follow the stored mask byte D6 (log 21) and the
inference of log 28; that the counters are natural numbers is the model's (log 27), and so is the canonical form of
the memories, over the contents named in log 4. (10_state.md section 9, 42_ppu_timing.md (advance),
45_collaborator_ports.md section 5, 92_eei_decisions.md D6, D15, D20, D26, log 4, log 13, log 17, log 21, log 24, log
27, log 28) -/
def Obligations.StepKeepsTheInvariant : Prop :=
  ∀ s t : State, s.Inv → step s = .next t → t.Inv
end

