-- ==== Sys2Proof/Laws/State.lean ====
section
/-! SUPPORT. One lemma per field per update of the state, true by rfl and tagged simp, so that no later proof unfolds a
record update. -/

namespace Sys2Proof.Machine

/-! ### Updates of `State` -/

variable (s : State)

@[simp] theorem State.setRam_ram (x : Memory Byte) : (s.setRam x).ram = x := rfl
@[simp] theorem State.setRam_busPending (x : Memory Byte) : (s.setRam x).busPending = s.busPending := rfl
@[simp] theorem State.setRam_dmaStall (x : Memory Byte) : (s.setRam x).dmaStall = s.dmaStall := rfl
@[simp] theorem State.setRam_ppu (x : Memory Byte) : (s.setRam x).ppu = s.ppu := rfl
@[simp] theorem State.setRam_sink (x : Memory Byte) : (s.setRam x).sink = s.sink := rfl
@[simp] theorem State.setRam_mapper (x : Memory Byte) : (s.setRam x).mapper = s.mapper := rfl
@[simp] theorem State.setRam_input (x : Memory Byte) : (s.setRam x).input = s.input := rfl
@[simp] theorem State.setRam_commands (x : Memory Byte) : (s.setRam x).commands = s.commands := rfl
@[simp] theorem State.setRam_reply (x : Memory Byte) : (s.setRam x).reply = s.reply := rfl

@[simp] theorem State.setBusPending_ram (x : Slot) : (s.setBusPending x).ram = s.ram := rfl
@[simp] theorem State.setBusPending_busPending (x : Slot) : (s.setBusPending x).busPending = x := rfl
@[simp] theorem State.setBusPending_dmaStall (x : Slot) : (s.setBusPending x).dmaStall = s.dmaStall := rfl
@[simp] theorem State.setBusPending_ppu (x : Slot) : (s.setBusPending x).ppu = s.ppu := rfl
@[simp] theorem State.setBusPending_sink (x : Slot) : (s.setBusPending x).sink = s.sink := rfl
@[simp] theorem State.setBusPending_mapper (x : Slot) : (s.setBusPending x).mapper = s.mapper := rfl
@[simp] theorem State.setBusPending_input (x : Slot) : (s.setBusPending x).input = s.input := rfl
@[simp] theorem State.setBusPending_commands (x : Slot) : (s.setBusPending x).commands = s.commands := rfl
@[simp] theorem State.setBusPending_reply (x : Slot) : (s.setBusPending x).reply = s.reply := rfl

@[simp] theorem State.setDmaStall_ram (x : Bool) : (s.setDmaStall x).ram = s.ram := rfl
@[simp] theorem State.setDmaStall_busPending (x : Bool) : (s.setDmaStall x).busPending = s.busPending := rfl
@[simp] theorem State.setDmaStall_dmaStall (x : Bool) : (s.setDmaStall x).dmaStall = x := rfl
@[simp] theorem State.setDmaStall_ppu (x : Bool) : (s.setDmaStall x).ppu = s.ppu := rfl
@[simp] theorem State.setDmaStall_sink (x : Bool) : (s.setDmaStall x).sink = s.sink := rfl
@[simp] theorem State.setDmaStall_mapper (x : Bool) : (s.setDmaStall x).mapper = s.mapper := rfl
@[simp] theorem State.setDmaStall_input (x : Bool) : (s.setDmaStall x).input = s.input := rfl
@[simp] theorem State.setDmaStall_commands (x : Bool) : (s.setDmaStall x).commands = s.commands := rfl
@[simp] theorem State.setDmaStall_reply (x : Bool) : (s.setDmaStall x).reply = s.reply := rfl

@[simp] theorem State.setPpu_ram (x : Ppu) : (s.setPpu x).ram = s.ram := rfl
@[simp] theorem State.setPpu_busPending (x : Ppu) : (s.setPpu x).busPending = s.busPending := rfl
@[simp] theorem State.setPpu_dmaStall (x : Ppu) : (s.setPpu x).dmaStall = s.dmaStall := rfl
@[simp] theorem State.setPpu_ppu (x : Ppu) : (s.setPpu x).ppu = x := rfl
@[simp] theorem State.setPpu_sink (x : Ppu) : (s.setPpu x).sink = s.sink := rfl
@[simp] theorem State.setPpu_mapper (x : Ppu) : (s.setPpu x).mapper = s.mapper := rfl
@[simp] theorem State.setPpu_input (x : Ppu) : (s.setPpu x).input = s.input := rfl
@[simp] theorem State.setPpu_commands (x : Ppu) : (s.setPpu x).commands = s.commands := rfl
@[simp] theorem State.setPpu_reply (x : Ppu) : (s.setPpu x).reply = s.reply := rfl

@[simp] theorem State.setSink_ram (x : FrameSink) : (s.setSink x).ram = s.ram := rfl
@[simp] theorem State.setSink_busPending (x : FrameSink) : (s.setSink x).busPending = s.busPending := rfl
@[simp] theorem State.setSink_dmaStall (x : FrameSink) : (s.setSink x).dmaStall = s.dmaStall := rfl
@[simp] theorem State.setSink_ppu (x : FrameSink) : (s.setSink x).ppu = s.ppu := rfl
@[simp] theorem State.setSink_sink (x : FrameSink) : (s.setSink x).sink = x := rfl
@[simp] theorem State.setSink_mapper (x : FrameSink) : (s.setSink x).mapper = s.mapper := rfl
@[simp] theorem State.setSink_input (x : FrameSink) : (s.setSink x).input = s.input := rfl
@[simp] theorem State.setSink_commands (x : FrameSink) : (s.setSink x).commands = s.commands := rfl
@[simp] theorem State.setSink_reply (x : FrameSink) : (s.setSink x).reply = s.reply := rfl

@[simp] theorem State.setMapper_ram (x : Mapper) : (s.setMapper x).ram = s.ram := rfl
@[simp] theorem State.setMapper_busPending (x : Mapper) : (s.setMapper x).busPending = s.busPending := rfl
@[simp] theorem State.setMapper_dmaStall (x : Mapper) : (s.setMapper x).dmaStall = s.dmaStall := rfl
@[simp] theorem State.setMapper_ppu (x : Mapper) : (s.setMapper x).ppu = s.ppu := rfl
@[simp] theorem State.setMapper_sink (x : Mapper) : (s.setMapper x).sink = s.sink := rfl
@[simp] theorem State.setMapper_mapper (x : Mapper) : (s.setMapper x).mapper = x := rfl
@[simp] theorem State.setMapper_input (x : Mapper) : (s.setMapper x).input = s.input := rfl
@[simp] theorem State.setMapper_commands (x : Mapper) : (s.setMapper x).commands = s.commands := rfl
@[simp] theorem State.setMapper_reply (x : Mapper) : (s.setMapper x).reply = s.reply := rfl

@[simp] theorem State.setInput_ram (x : InputDevice) : (s.setInput x).ram = s.ram := rfl
@[simp] theorem State.setInput_busPending (x : InputDevice) : (s.setInput x).busPending = s.busPending := rfl
@[simp] theorem State.setInput_dmaStall (x : InputDevice) : (s.setInput x).dmaStall = s.dmaStall := rfl
@[simp] theorem State.setInput_ppu (x : InputDevice) : (s.setInput x).ppu = s.ppu := rfl
@[simp] theorem State.setInput_sink (x : InputDevice) : (s.setInput x).sink = s.sink := rfl
@[simp] theorem State.setInput_mapper (x : InputDevice) : (s.setInput x).mapper = s.mapper := rfl
@[simp] theorem State.setInput_input (x : InputDevice) : (s.setInput x).input = x := rfl
@[simp] theorem State.setInput_commands (x : InputDevice) : (s.setInput x).commands = s.commands := rfl
@[simp] theorem State.setInput_reply (x : InputDevice) : (s.setInput x).reply = s.reply := rfl

@[simp] theorem State.setCommands_ram (x : List Command) : (s.setCommands x).ram = s.ram := rfl
@[simp] theorem State.setCommands_busPending (x : List Command) : (s.setCommands x).busPending = s.busPending := rfl
@[simp] theorem State.setCommands_dmaStall (x : List Command) : (s.setCommands x).dmaStall = s.dmaStall := rfl
@[simp] theorem State.setCommands_ppu (x : List Command) : (s.setCommands x).ppu = s.ppu := rfl
@[simp] theorem State.setCommands_sink (x : List Command) : (s.setCommands x).sink = s.sink := rfl
@[simp] theorem State.setCommands_mapper (x : List Command) : (s.setCommands x).mapper = s.mapper := rfl
@[simp] theorem State.setCommands_input (x : List Command) : (s.setCommands x).input = s.input := rfl
@[simp] theorem State.setCommands_commands (x : List Command) : (s.setCommands x).commands = x := rfl
@[simp] theorem State.setCommands_reply (x : List Command) : (s.setCommands x).reply = s.reply := rfl

@[simp] theorem State.setReply_ram (x : Reply) : (s.setReply x).ram = s.ram := rfl
@[simp] theorem State.setReply_busPending (x : Reply) : (s.setReply x).busPending = s.busPending := rfl
@[simp] theorem State.setReply_dmaStall (x : Reply) : (s.setReply x).dmaStall = s.dmaStall := rfl
@[simp] theorem State.setReply_ppu (x : Reply) : (s.setReply x).ppu = s.ppu := rfl
@[simp] theorem State.setReply_sink (x : Reply) : (s.setReply x).sink = s.sink := rfl
@[simp] theorem State.setReply_mapper (x : Reply) : (s.setReply x).mapper = s.mapper := rfl
@[simp] theorem State.setReply_input (x : Reply) : (s.setReply x).input = s.input := rfl
@[simp] theorem State.setReply_commands (x : Reply) : (s.setReply x).commands = s.commands := rfl
@[simp] theorem State.setReply_reply (x : Reply) : (s.setReply x).reply = x := rfl

/-- Storing one RAM byte changes `ram` alone. -/
@[simp] theorem State.storeRam_busPending (i : BitVec 11) (b : Byte) : (s.storeRam i b).busPending = s.busPending := rfl
@[simp] theorem State.storeRam_dmaStall (i : BitVec 11) (b : Byte) : (s.storeRam i b).dmaStall = s.dmaStall := rfl
@[simp] theorem State.storeRam_ppu (i : BitVec 11) (b : Byte) : (s.storeRam i b).ppu = s.ppu := rfl
@[simp] theorem State.storeRam_sink (i : BitVec 11) (b : Byte) : (s.storeRam i b).sink = s.sink := rfl
@[simp] theorem State.storeRam_mapper (i : BitVec 11) (b : Byte) : (s.storeRam i b).mapper = s.mapper := rfl
@[simp] theorem State.storeRam_input (i : BitVec 11) (b : Byte) : (s.storeRam i b).input = s.input := rfl
@[simp] theorem State.storeRam_commands (i : BitVec 11) (b : Byte) : (s.storeRam i b).commands = s.commands := rfl
@[simp] theorem State.storeRam_reply (i : BitVec 11) (b : Byte) : (s.storeRam i b).reply = s.reply := rfl

@[simp] theorem raiseBus_ram (k : Slot) : (raiseBus k s).ram = s.ram := rfl
@[simp] theorem raiseBus_dmaStall (k : Slot) : (raiseBus k s).dmaStall = s.dmaStall := rfl
@[simp] theorem raiseBus_ppu (k : Slot) : (raiseBus k s).ppu = s.ppu := rfl
@[simp] theorem raiseBus_sink (k : Slot) : (raiseBus k s).sink = s.sink := rfl
@[simp] theorem raiseBus_mapper (k : Slot) : (raiseBus k s).mapper = s.mapper := rfl
@[simp] theorem raiseBus_input (k : Slot) : (raiseBus k s).input = s.input := rfl
@[simp] theorem raiseBus_commands (k : Slot) : (raiseBus k s).commands = s.commands := rfl
@[simp] theorem raiseBus_reply (k : Slot) : (raiseBus k s).reply = s.reply := rfl
@[simp] theorem raiseBus_busPending (k : Slot) : (raiseBus k s).busPending = k.or s.busPending := rfl

@[simp] theorem ackBus_ram : (ackBus s).ram = s.ram := rfl
@[simp] theorem ackBus_dmaStall : (ackBus s).dmaStall = s.dmaStall := rfl
@[simp] theorem ackBus_ppu : (ackBus s).ppu = s.ppu := rfl
@[simp] theorem ackBus_sink : (ackBus s).sink = s.sink := rfl
@[simp] theorem ackBus_mapper : (ackBus s).mapper = s.mapper := rfl
@[simp] theorem ackBus_input : (ackBus s).input = s.input := rfl
@[simp] theorem ackBus_commands : (ackBus s).commands = s.commands := rfl
@[simp] theorem ackBus_reply : (ackBus s).reply = s.reply := rfl
@[simp] theorem ackBus_busPending : (ackBus s).busPending = none := rfl

/-! ### Updates of `Ppu` -/

variable (p : Ppu)

@[simp] theorem Ppu.setRegister_v (i : BitVec 3) (b : Byte) : (p.setRegister i b).v = p.v := rfl
@[simp] theorem Ppu.setRegister_t (i : BitVec 3) (b : Byte) : (p.setRegister i b).t = p.t := rfl
@[simp] theorem Ppu.setRegister_fineX (i : BitVec 3) (b : Byte) : (p.setRegister i b).fineX = p.fineX := rfl
@[simp] theorem Ppu.setRegister_writeToggle (i : BitVec 3) (b : Byte) : (p.setRegister i b).writeToggle = p.writeToggle := rfl
@[simp] theorem Ppu.setRegister_oam (i : BitVec 3) (b : Byte) : (p.setRegister i b).oam = p.oam := rfl
@[simp] theorem Ppu.setRegister_oamAddr (i : BitVec 3) (b : Byte) : (p.setRegister i b).oamAddr = p.oamAddr := rfl
@[simp] theorem Ppu.setRegister_secondaryOam (i : BitVec 3) (b : Byte) : (p.setRegister i b).secondaryOam = p.secondaryOam := rfl
@[simp] theorem Ppu.setRegister_vram (i : BitVec 3) (b : Byte) : (p.setRegister i b).vram = p.vram := rfl
@[simp] theorem Ppu.setRegister_readBuffer (i : BitVec 3) (b : Byte) : (p.setRegister i b).readBuffer = p.readBuffer := rfl
@[simp] theorem Ppu.setRegister_scanline (i : BitVec 3) (b : Byte) : (p.setRegister i b).scanline = p.scanline := rfl
@[simp] theorem Ppu.setRegister_dot (i : BitVec 3) (b : Byte) : (p.setRegister i b).dot = p.dot := rfl
@[simp] theorem Ppu.setRegister_oddFrame (i : BitVec 3) (b : Byte) : (p.setRegister i b).oddFrame = p.oddFrame := rfl
@[simp] theorem Ppu.setRegister_showBackground (i : BitVec 3) (b : Byte) : (p.setRegister i b).showBackground = p.showBackground := rfl
@[simp] theorem Ppu.setRegister_showSprites (i : BitVec 3) (b : Byte) : (p.setRegister i b).showSprites = p.showSprites := rfl
@[simp] theorem Ppu.setRegister_inVblank (i : BitVec 3) (b : Byte) : (p.setRegister i b).inVblank = p.inVblank := rfl
@[simp] theorem Ppu.setRegister_spriteZeroHit (i : BitVec 3) (b : Byte) : (p.setRegister i b).spriteZeroHit = p.spriteZeroHit := rfl
@[simp] theorem Ppu.setRegister_spriteOverflow (i : BitVec 3) (b : Byte) : (p.setRegister i b).spriteOverflow = p.spriteOverflow := rfl
@[simp] theorem Ppu.setRegister_pending (i : BitVec 3) (b : Byte) : (p.setRegister i b).pending = p.pending := rfl

@[simp] theorem Ppu.storeOam_registers (i b : Byte) : (p.storeOam i b).registers = p.registers := rfl
@[simp] theorem Ppu.storeOam_v (i b : Byte) : (p.storeOam i b).v = p.v := rfl
@[simp] theorem Ppu.storeOam_t (i b : Byte) : (p.storeOam i b).t = p.t := rfl
@[simp] theorem Ppu.storeOam_fineX (i b : Byte) : (p.storeOam i b).fineX = p.fineX := rfl
@[simp] theorem Ppu.storeOam_writeToggle (i b : Byte) : (p.storeOam i b).writeToggle = p.writeToggle := rfl
@[simp] theorem Ppu.storeOam_oamAddr (i b : Byte) : (p.storeOam i b).oamAddr = p.oamAddr := rfl
@[simp] theorem Ppu.storeOam_secondaryOam (i b : Byte) : (p.storeOam i b).secondaryOam = p.secondaryOam := rfl
@[simp] theorem Ppu.storeOam_vram (i b : Byte) : (p.storeOam i b).vram = p.vram := rfl
@[simp] theorem Ppu.storeOam_readBuffer (i b : Byte) : (p.storeOam i b).readBuffer = p.readBuffer := rfl
@[simp] theorem Ppu.storeOam_scanline (i b : Byte) : (p.storeOam i b).scanline = p.scanline := rfl
@[simp] theorem Ppu.storeOam_dot (i b : Byte) : (p.storeOam i b).dot = p.dot := rfl
@[simp] theorem Ppu.storeOam_oddFrame (i b : Byte) : (p.storeOam i b).oddFrame = p.oddFrame := rfl
@[simp] theorem Ppu.storeOam_showBackground (i b : Byte) : (p.storeOam i b).showBackground = p.showBackground := rfl
@[simp] theorem Ppu.storeOam_showSprites (i b : Byte) : (p.storeOam i b).showSprites = p.showSprites := rfl
@[simp] theorem Ppu.storeOam_inVblank (i b : Byte) : (p.storeOam i b).inVblank = p.inVblank := rfl
@[simp] theorem Ppu.storeOam_spriteZeroHit (i b : Byte) : (p.storeOam i b).spriteZeroHit = p.spriteZeroHit := rfl
@[simp] theorem Ppu.storeOam_spriteOverflow (i b : Byte) : (p.storeOam i b).spriteOverflow = p.spriteOverflow := rfl
@[simp] theorem Ppu.storeOam_pending (i b : Byte) : (p.storeOam i b).pending = p.pending := rfl

@[simp] theorem Ppu.storeSecondaryOam_registers (i : BitVec 5) (b : Byte) : (p.storeSecondaryOam i b).registers = p.registers := rfl
@[simp] theorem Ppu.storeSecondaryOam_v (i : BitVec 5) (b : Byte) : (p.storeSecondaryOam i b).v = p.v := rfl
@[simp] theorem Ppu.storeSecondaryOam_t (i : BitVec 5) (b : Byte) : (p.storeSecondaryOam i b).t = p.t := rfl
@[simp] theorem Ppu.storeSecondaryOam_fineX (i : BitVec 5) (b : Byte) : (p.storeSecondaryOam i b).fineX = p.fineX := rfl
@[simp] theorem Ppu.storeSecondaryOam_writeToggle (i : BitVec 5) (b : Byte) : (p.storeSecondaryOam i b).writeToggle = p.writeToggle := rfl
@[simp] theorem Ppu.storeSecondaryOam_oam (i : BitVec 5) (b : Byte) : (p.storeSecondaryOam i b).oam = p.oam := rfl
@[simp] theorem Ppu.storeSecondaryOam_oamAddr (i : BitVec 5) (b : Byte) : (p.storeSecondaryOam i b).oamAddr = p.oamAddr := rfl
@[simp] theorem Ppu.storeSecondaryOam_vram (i : BitVec 5) (b : Byte) : (p.storeSecondaryOam i b).vram = p.vram := rfl
@[simp] theorem Ppu.storeSecondaryOam_readBuffer (i : BitVec 5) (b : Byte) : (p.storeSecondaryOam i b).readBuffer = p.readBuffer := rfl
@[simp] theorem Ppu.storeSecondaryOam_scanline (i : BitVec 5) (b : Byte) : (p.storeSecondaryOam i b).scanline = p.scanline := rfl
@[simp] theorem Ppu.storeSecondaryOam_dot (i : BitVec 5) (b : Byte) : (p.storeSecondaryOam i b).dot = p.dot := rfl
@[simp] theorem Ppu.storeSecondaryOam_oddFrame (i : BitVec 5) (b : Byte) : (p.storeSecondaryOam i b).oddFrame = p.oddFrame := rfl
@[simp] theorem Ppu.storeSecondaryOam_showBackground (i : BitVec 5) (b : Byte) : (p.storeSecondaryOam i b).showBackground = p.showBackground := rfl
@[simp] theorem Ppu.storeSecondaryOam_showSprites (i : BitVec 5) (b : Byte) : (p.storeSecondaryOam i b).showSprites = p.showSprites := rfl
@[simp] theorem Ppu.storeSecondaryOam_inVblank (i : BitVec 5) (b : Byte) : (p.storeSecondaryOam i b).inVblank = p.inVblank := rfl
@[simp] theorem Ppu.storeSecondaryOam_spriteZeroHit (i : BitVec 5) (b : Byte) : (p.storeSecondaryOam i b).spriteZeroHit = p.spriteZeroHit := rfl
@[simp] theorem Ppu.storeSecondaryOam_spriteOverflow (i : BitVec 5) (b : Byte) : (p.storeSecondaryOam i b).spriteOverflow = p.spriteOverflow := rfl
@[simp] theorem Ppu.storeSecondaryOam_pending (i : BitVec 5) (b : Byte) : (p.storeSecondaryOam i b).pending = p.pending := rfl

@[simp] theorem Ppu.storeVram_registers (a : PpuAddr) (b : Byte) : (p.storeVram a b).registers = p.registers := rfl
@[simp] theorem Ppu.storeVram_v (a : PpuAddr) (b : Byte) : (p.storeVram a b).v = p.v := rfl
@[simp] theorem Ppu.storeVram_t (a : PpuAddr) (b : Byte) : (p.storeVram a b).t = p.t := rfl
@[simp] theorem Ppu.storeVram_fineX (a : PpuAddr) (b : Byte) : (p.storeVram a b).fineX = p.fineX := rfl
@[simp] theorem Ppu.storeVram_writeToggle (a : PpuAddr) (b : Byte) : (p.storeVram a b).writeToggle = p.writeToggle := rfl
@[simp] theorem Ppu.storeVram_oam (a : PpuAddr) (b : Byte) : (p.storeVram a b).oam = p.oam := rfl
@[simp] theorem Ppu.storeVram_oamAddr (a : PpuAddr) (b : Byte) : (p.storeVram a b).oamAddr = p.oamAddr := rfl
@[simp] theorem Ppu.storeVram_secondaryOam (a : PpuAddr) (b : Byte) : (p.storeVram a b).secondaryOam = p.secondaryOam := rfl
@[simp] theorem Ppu.storeVram_readBuffer (a : PpuAddr) (b : Byte) : (p.storeVram a b).readBuffer = p.readBuffer := rfl
@[simp] theorem Ppu.storeVram_scanline (a : PpuAddr) (b : Byte) : (p.storeVram a b).scanline = p.scanline := rfl
@[simp] theorem Ppu.storeVram_dot (a : PpuAddr) (b : Byte) : (p.storeVram a b).dot = p.dot := rfl
@[simp] theorem Ppu.storeVram_oddFrame (a : PpuAddr) (b : Byte) : (p.storeVram a b).oddFrame = p.oddFrame := rfl
@[simp] theorem Ppu.storeVram_showBackground (a : PpuAddr) (b : Byte) : (p.storeVram a b).showBackground = p.showBackground := rfl
@[simp] theorem Ppu.storeVram_showSprites (a : PpuAddr) (b : Byte) : (p.storeVram a b).showSprites = p.showSprites := rfl
@[simp] theorem Ppu.storeVram_inVblank (a : PpuAddr) (b : Byte) : (p.storeVram a b).inVblank = p.inVblank := rfl
@[simp] theorem Ppu.storeVram_spriteZeroHit (a : PpuAddr) (b : Byte) : (p.storeVram a b).spriteZeroHit = p.spriteZeroHit := rfl
@[simp] theorem Ppu.storeVram_spriteOverflow (a : PpuAddr) (b : Byte) : (p.storeVram a b).spriteOverflow = p.spriteOverflow := rfl
@[simp] theorem Ppu.storeVram_pending (a : PpuAddr) (b : Byte) : (p.storeVram a b).pending = p.pending := rfl

@[simp] theorem raisePpu_registers (k : Slot) : (raisePpu k p).registers = p.registers := rfl
@[simp] theorem raisePpu_v (k : Slot) : (raisePpu k p).v = p.v := rfl
@[simp] theorem raisePpu_t (k : Slot) : (raisePpu k p).t = p.t := rfl
@[simp] theorem raisePpu_fineX (k : Slot) : (raisePpu k p).fineX = p.fineX := rfl
@[simp] theorem raisePpu_writeToggle (k : Slot) : (raisePpu k p).writeToggle = p.writeToggle := rfl
@[simp] theorem raisePpu_oam (k : Slot) : (raisePpu k p).oam = p.oam := rfl
@[simp] theorem raisePpu_oamAddr (k : Slot) : (raisePpu k p).oamAddr = p.oamAddr := rfl
@[simp] theorem raisePpu_secondaryOam (k : Slot) : (raisePpu k p).secondaryOam = p.secondaryOam := rfl
@[simp] theorem raisePpu_vram (k : Slot) : (raisePpu k p).vram = p.vram := rfl
@[simp] theorem raisePpu_readBuffer (k : Slot) : (raisePpu k p).readBuffer = p.readBuffer := rfl
@[simp] theorem raisePpu_scanline (k : Slot) : (raisePpu k p).scanline = p.scanline := rfl
@[simp] theorem raisePpu_dot (k : Slot) : (raisePpu k p).dot = p.dot := rfl
@[simp] theorem raisePpu_oddFrame (k : Slot) : (raisePpu k p).oddFrame = p.oddFrame := rfl
@[simp] theorem raisePpu_showBackground (k : Slot) : (raisePpu k p).showBackground = p.showBackground := rfl
@[simp] theorem raisePpu_showSprites (k : Slot) : (raisePpu k p).showSprites = p.showSprites := rfl
@[simp] theorem raisePpu_inVblank (k : Slot) : (raisePpu k p).inVblank = p.inVblank := rfl
@[simp] theorem raisePpu_spriteZeroHit (k : Slot) : (raisePpu k p).spriteZeroHit = p.spriteZeroHit := rfl
@[simp] theorem raisePpu_spriteOverflow (k : Slot) : (raisePpu k p).spriteOverflow = p.spriteOverflow := rfl
@[simp] theorem raisePpu_pending (k : Slot) : (raisePpu k p).pending = k.or p.pending := rfl

@[simp] theorem ackPpu_registers : (ackPpu p).registers = p.registers := rfl
@[simp] theorem ackPpu_v : (ackPpu p).v = p.v := rfl
@[simp] theorem ackPpu_t : (ackPpu p).t = p.t := rfl
@[simp] theorem ackPpu_fineX : (ackPpu p).fineX = p.fineX := rfl
@[simp] theorem ackPpu_writeToggle : (ackPpu p).writeToggle = p.writeToggle := rfl
@[simp] theorem ackPpu_oam : (ackPpu p).oam = p.oam := rfl
@[simp] theorem ackPpu_oamAddr : (ackPpu p).oamAddr = p.oamAddr := rfl
@[simp] theorem ackPpu_secondaryOam : (ackPpu p).secondaryOam = p.secondaryOam := rfl
@[simp] theorem ackPpu_vram : (ackPpu p).vram = p.vram := rfl
@[simp] theorem ackPpu_readBuffer : (ackPpu p).readBuffer = p.readBuffer := rfl
@[simp] theorem ackPpu_scanline : (ackPpu p).scanline = p.scanline := rfl
@[simp] theorem ackPpu_dot : (ackPpu p).dot = p.dot := rfl
@[simp] theorem ackPpu_oddFrame : (ackPpu p).oddFrame = p.oddFrame := rfl
@[simp] theorem ackPpu_showBackground : (ackPpu p).showBackground = p.showBackground := rfl
@[simp] theorem ackPpu_showSprites : (ackPpu p).showSprites = p.showSprites := rfl
@[simp] theorem ackPpu_inVblank : (ackPpu p).inVblank = p.inVblank := rfl
@[simp] theorem ackPpu_spriteZeroHit : (ackPpu p).spriteZeroHit = p.spriteZeroHit := rfl
@[simp] theorem ackPpu_spriteOverflow : (ackPpu p).spriteOverflow = p.spriteOverflow := rfl
@[simp] theorem ackPpu_pending : (ackPpu p).pending = none := rfl

@[simp] theorem Ppu.setScroll_registers (r : ScrollTarget) (x : Scroll) : (p.setScroll r x).registers = p.registers := by cases r <;> rfl
@[simp] theorem Ppu.setScroll_fineX (r : ScrollTarget) (x : Scroll) : (p.setScroll r x).fineX = p.fineX := by cases r <;> rfl
@[simp] theorem Ppu.setScroll_writeToggle (r : ScrollTarget) (x : Scroll) : (p.setScroll r x).writeToggle = p.writeToggle := by cases r <;> rfl
@[simp] theorem Ppu.setScroll_oam (r : ScrollTarget) (x : Scroll) : (p.setScroll r x).oam = p.oam := by cases r <;> rfl
@[simp] theorem Ppu.setScroll_oamAddr (r : ScrollTarget) (x : Scroll) : (p.setScroll r x).oamAddr = p.oamAddr := by cases r <;> rfl
@[simp] theorem Ppu.setScroll_secondaryOam (r : ScrollTarget) (x : Scroll) : (p.setScroll r x).secondaryOam = p.secondaryOam := by cases r <;> rfl
@[simp] theorem Ppu.setScroll_vram (r : ScrollTarget) (x : Scroll) : (p.setScroll r x).vram = p.vram := by cases r <;> rfl
@[simp] theorem Ppu.setScroll_readBuffer (r : ScrollTarget) (x : Scroll) : (p.setScroll r x).readBuffer = p.readBuffer := by cases r <;> rfl
@[simp] theorem Ppu.setScroll_scanline (r : ScrollTarget) (x : Scroll) : (p.setScroll r x).scanline = p.scanline := by cases r <;> rfl
@[simp] theorem Ppu.setScroll_dot (r : ScrollTarget) (x : Scroll) : (p.setScroll r x).dot = p.dot := by cases r <;> rfl
@[simp] theorem Ppu.setScroll_oddFrame (r : ScrollTarget) (x : Scroll) : (p.setScroll r x).oddFrame = p.oddFrame := by cases r <;> rfl
@[simp] theorem Ppu.setScroll_showBackground (r : ScrollTarget) (x : Scroll) : (p.setScroll r x).showBackground = p.showBackground := by cases r <;> rfl
@[simp] theorem Ppu.setScroll_showSprites (r : ScrollTarget) (x : Scroll) : (p.setScroll r x).showSprites = p.showSprites := by cases r <;> rfl
@[simp] theorem Ppu.setScroll_inVblank (r : ScrollTarget) (x : Scroll) : (p.setScroll r x).inVblank = p.inVblank := by cases r <;> rfl
@[simp] theorem Ppu.setScroll_spriteZeroHit (r : ScrollTarget) (x : Scroll) : (p.setScroll r x).spriteZeroHit = p.spriteZeroHit := by cases r <;> rfl
@[simp] theorem Ppu.setScroll_spriteOverflow (r : ScrollTarget) (x : Scroll) : (p.setScroll r x).spriteOverflow = p.spriteOverflow := by cases r <;> rfl
@[simp] theorem Ppu.setScroll_pending (r : ScrollTarget) (x : Scroll) : (p.setScroll r x).pending = p.pending := by cases r <;> rfl

@[simp] theorem Ppu.setScroll_scroll (r : ScrollTarget) (x : Scroll) : (p.setScroll r x).scroll r = x := by cases r <;> rfl

@[simp] theorem Ppu.setScroll_scroll_other (r : ScrollTarget) (x : Scroll) :
    (p.setScroll r x).scroll (otherTarget r) = p.scroll (otherTarget r) := by cases r <;> rfl

/-! ### How an operation ends -/

theorem finish_next : finish s = .next (s.setReply .nothing) := rfl

theorem answer_next (r : Reply) : answer r s = .next (s.setReply r) := rfl

end Sys2Proof.Machine
end

