-- ==== Sys2Proof/Laws/Memory.lean ====
section
/-! SUPPORT. The laws of the memories: a read after a write to the same address gives the value written, a write leaves
every other address alone, and every write keeps the canonical form. The first two hold of every list, canonical or
not. -/

namespace Sys2Proof.Machine

variable {α : Type}

@[simp] theorem Memory.read_nil (init : Nat → α) (a : Nat) : Memory.read init [] a = init a := rfl

theorem Memory.read_erase_self (init : Nat → α) (m : Memory α) (a : Nat) : (m.erase a).read init a = init a := by
  induction m with
  | nil => rfl
  | cons e rest ih =>
    obtain ⟨x, c⟩ := e
    by_cases h : x = a
    · simpa [Memory.erase, h] using ih
    · simpa [Memory.erase, Memory.read, h] using ih

theorem Memory.read_erase_other (init : Nat → α) (m : Memory α) {a x : Nat} (h : x ≠ a) :
    (m.erase a).read init x = m.read init x := by
  induction m with
  | nil => rfl
  | cons e rest ih =>
    obtain ⟨y, c⟩ := e
    by_cases hy : y = a
    · subst hy; simpa [Memory.erase, Memory.read, h.symm] using ih
    · simp [Memory.erase, Memory.read, hy, ih]

theorem Memory.read_insert_other (init : Nat → α) (m : Memory α) {a x : Nat} (b : α) (h : x ≠ a) :
    (m.insert a b).read init x = m.read init x := by
  induction m with
  | nil => simp [Memory.insert, Memory.read, h.symm]
  | cons e rest ih =>
    obtain ⟨y, c⟩ := e
    by_cases hy : a < y
    · simp [Memory.insert, Memory.read, hy, h.symm]
    · simp [Memory.insert, Memory.read, hy, ih]

theorem Memory.read_insert_erase_self (init : Nat → α) (m : Memory α) (a : Nat) (b : α) :
    ((m.erase a).insert a b).read init a = b := by
  induction m with
  | nil => simp [Memory.erase, Memory.insert, Memory.read]
  | cons e rest ih =>
    obtain ⟨y, c⟩ := e
    by_cases hy : y = a
    · simpa [Memory.erase, hy] using ih
    · by_cases hlt : a < y
      · simp [Memory.erase, Memory.insert, Memory.read, hy, hlt]
      · simpa [Memory.erase, Memory.insert, Memory.read, hy, hlt] using ih

variable [DecidableEq α]

@[simp] theorem Memory.read_write_self (init : Nat → α) (m : Memory α) (a : Nat) (b : α) :
    (m.write init a b).read init a = b := by
  unfold Memory.write
  split
  · next h => rw [Memory.read_erase_self, h]
  · exact Memory.read_insert_erase_self init m a b

theorem Memory.read_write_other (init : Nat → α) (m : Memory α) {a x : Nat} (b : α) (h : x ≠ a) :
    (m.write init a b).read init x = m.read init x := by
  unfold Memory.write
  split
  · exact Memory.read_erase_other init m h
  · rw [Memory.read_insert_other init _ b h, Memory.read_erase_other init m h]

/-- One read after one write. -/
theorem Memory.read_write (init : Nat → α) (m : Memory α) (a x : Nat) (b : α) :
    (m.write init a b).read init x = if x = a then b else m.read init x := by
  split
  · next h => rw [h, Memory.read_write_self]
  · next h => exact Memory.read_write_other init m b h

theorem Memory.wfFrom_mono {init : Nat → α} {size lo lo' : Nat} {m : Memory α} (h : m.wfFrom init size lo = true)
    (hl : lo' ≤ lo) : m.wfFrom init size lo' = true := by
  cases m with
  | nil => rfl
  | cons e rest =>
    obtain ⟨y, c⟩ := e
    simp only [Memory.wfFrom, Bool.and_eq_true, decide_eq_true_eq] at h ⊢
    exact ⟨⟨⟨by omega, h.1.1.2⟩, h.1.2⟩, h.2⟩

theorem Memory.wfFrom_erase {init : Nat → α} {size lo : Nat} {m : Memory α} (a : Nat)
    (h : m.wfFrom init size lo = true) : (m.erase a).wfFrom init size lo = true := by
  induction m generalizing lo with
  | nil => rfl
  | cons e rest ih =>
    obtain ⟨y, c⟩ := e
    simp only [Memory.wfFrom, Bool.and_eq_true, decide_eq_true_eq] at h
    have hr := ih h.2
    by_cases hy : y = a
    · simpa [Memory.erase, hy] using Memory.wfFrom_mono hr (by omega)
    · simp [Memory.erase, Memory.wfFrom, hy, hr, h.1.1, h.1.2]

/-- Inserting at an address the memory does not list keeps the form. -/
theorem Memory.wfFrom_insert_erase {init : Nat → α} {size lo a : Nat} {m : Memory α} {b : α} (hlo : lo ≤ a)
    (ha : a < size) (hb : b ≠ init a) (h : m.wfFrom init size lo = true) :
    ((m.erase a).insert a b).wfFrom init size lo = true := by
  induction m generalizing lo with
  | nil => simp [Memory.erase, Memory.insert, Memory.wfFrom, hlo, ha, hb]
  | cons e rest ih =>
    obtain ⟨y, c⟩ := e
    simp only [Memory.wfFrom, Bool.and_eq_true, decide_eq_true_eq] at h
    by_cases hy : y = a
    · subst hy
      have hr : ((Memory.erase rest y).insert y b).wfFrom init size y = true :=
        ih (Nat.le_refl y) (Memory.wfFrom_mono h.2 (by omega))
      simpa [Memory.erase] using Memory.wfFrom_mono hr hlo
    · by_cases hlt : a < y
      · have hr := Memory.wfFrom_mono (Memory.wfFrom_erase a h.2) (Nat.le_refl _)
        simp [Memory.erase, Memory.insert, Memory.wfFrom, hy, hlt, hlo, ha, hb, hr, h.1.1.2, h.1.2]
      · have hr := ih (lo := y + 1) (by omega) h.2
        simp [Memory.erase, Memory.insert, Memory.wfFrom, hy, hlt, hr, h.1.1, h.1.2]

/-- Every store inside the memory keeps the canonical form. -/
theorem Memory.write_wf {init : Nat → α} {size : Nat} {m : Memory α} (a : Nat) (b : α) (ha : a < size)
    (h : m.wf init size = true) : (m.write init a b).wf init size = true := by
  unfold Memory.write
  split
  · exact Memory.wfFrom_erase a h
  · next hb => exact Memory.wfFrom_insert_erase (Nat.zero_le a) ha hb h

/-! ### The typed accesses -/

theorem State.ramByte_storeRam (s : State) (i j : BitVec 11) (b : Byte) :
    (s.storeRam i b).ramByte j = if j = i then b else s.ramByte j := by
  simp [State.storeRam, State.ramByte, Memory.read_write, BitVec.toNat_inj]

theorem Ppu.oamByte_storeOam (p : Ppu) (i j b : Byte) :
    (p.storeOam i b).oamByte j = if j = i then b else p.oamByte j := by
  simp [Ppu.storeOam, Ppu.oamByte, Memory.read_write, BitVec.toNat_inj]

theorem Ppu.secondaryOamByte_store (p : Ppu) (i j : BitVec 5) (b : Byte) :
    (p.storeSecondaryOam i b).secondaryOamByte j = if j = i then b else p.secondaryOamByte j := by
  simp [Ppu.storeSecondaryOam, Ppu.secondaryOamByte, Memory.read_write, BitVec.toNat_inj]

theorem Ppu.vramByte_storeVram (p : Ppu) (a x : PpuAddr) (b : Byte) :
    (p.storeVram a b).vramByte x = if Config.vramFold x = Config.vramFold a then b else p.vramByte x := by
  simp [Ppu.storeVram, Ppu.vramByte, Memory.read_write, BitVec.toNat_inj]

theorem Ppu.register_setRegister (p : Ppu) (i j : BitVec 3) (b : Byte) :
    (p.setRegister i b).register j = if j = i then b else p.register j := by
  simp [Ppu.setRegister, Ppu.register, Vector.getElem_set, BitVec.toNat_inj, eq_comm]

end Sys2Proof.Machine
end

