-- ==== Sys2Proof/Laws/Decode.lean ====
section
/-! SUPPORT. The command word and its four fields determine each other, and what each address set of WellFormed.lean
selects in the bus decode of Decode.lean. -/

namespace Sys2Proof


theorem opField_commandWord (op sub : BitVec 4) (a : Addr) (d : Byte) : opField (commandWord op sub a d) = op := by
  ext k hk
  simp only [opField, commandWord, BitVec.getElem_extractLsb', BitVec.getLsbD_append]
  have h1 : ¬ 28 + k < 8 := by omega
  have h2 : ¬ 28 + k - 8 < 16 := by omega
  have h3 : ¬ 28 + k - 8 - 16 < 4 := by omega
  simp [h1, h2, h3, BitVec.getLsbD_eq_getElem hk, show 28 + k - 8 - 16 - 4 = k by omega]

theorem subField_commandWord (op sub : BitVec 4) (a : Addr) (d : Byte) : subField (commandWord op sub a d) = sub := by
  ext k hk
  simp only [subField, commandWord, BitVec.getElem_extractLsb', BitVec.getLsbD_append]
  have h1 : ¬ 24 + k < 8 := by omega
  have h2 : ¬ 24 + k - 8 < 16 := by omega
  have h3 : 24 + k - 8 - 16 < 4 := by omega
  simp [h1, h2, BitVec.getLsbD_eq_getElem hk, show 24 + k - 8 - 16 = k by omega]
  intro h; omega

theorem aField_commandWord (op sub : BitVec 4) (a : Addr) (d : Byte) : aField (commandWord op sub a d) = a := by
  ext k hk
  simp only [aField, commandWord, BitVec.getElem_extractLsb', BitVec.getLsbD_append]
  have h1 : ¬ 8 + k < 8 := by omega
  have h2 : 8 + k - 8 < 16 := by omega
  simp [h1, BitVec.getLsbD_eq_getElem hk, show 8 + k - 8 = k by omega]
  intro h; omega

theorem dField_commandWord (op sub : BitVec 4) (a : Addr) (d : Byte) : dField (commandWord op sub a d) = d := by
  ext k hk
  simp only [dField, commandWord, BitVec.getElem_extractLsb', BitVec.getLsbD_append]
  simp [hk]

theorem commandWord_fields (w : Command) : commandWord (opField w) (subField w) (aField w) (dField w) = w := by
  ext k hk
  simp only [commandWord, opField, subField, aField, dField, ← BitVec.getLsbD_eq_getElem, BitVec.getLsbD_append,
    BitVec.getLsbD_extractLsb']
  have e1 : ¬ k < 8 → 8 + (k - 8) = k := by omega
  have e2 : ¬ k < 8 → ¬ k - 8 < 16 → 24 + (k - 8 - 16) = k := by omega
  have e3 : ¬ k < 8 → ¬ k - 8 < 16 → ¬ k - 8 - 16 < 4 → 28 + (k - 8 - 16 - 4) = k ∧ k - 8 - 16 - 4 < 4 := by omega
  split
  · simp_all
  · split
    · simp_all
    · split <;> simp_all

theorem addrIsReg_iff (i : BitVec 3) (a : Addr) :
    addrIsReg i a = true ↔ 0x2000#16 ≤ a ∧ a ≤ 0x3FFF#16 ∧ a.extractLsb' 0 3 = i := by
  obtain ⟨h, m, l, rfl⟩ : ∃ (h : BitVec 3) (m : BitVec 10) (l : BitVec 3), a = h ++ m ++ l :=
    ⟨a.extractLsb' 13 3, a.extractLsb' 3 10, a.extractLsb' 0 3, by
      ext k hk
      simp only [← BitVec.getLsbD_eq_getElem, BitVec.getLsbD_append, BitVec.getLsbD_extractLsb']
      split
      · simp_all
      · split
        · simp_all
        · have : k - 3 - 10 < 3 := by omega
          simp_all
          congr 1; omega⟩
  have e1 : (0xE007#16) = 7#3 ++ 0#10 ++ 7#3 := by decide
  have e2 : (0x2000#16 ||| i.setWidth 16) = 1#3 ++ 0#10 ++ i := by revert i; decide
  have hN : ((h ++ m ++ l : BitVec 16)).toNat = h.toNat * 8192 + m.toNat * 8 + l.toNat := by
    rw [BitVec.toNat_append, BitVec.toNat_append, ← Nat.shiftLeft_add_eq_or_of_lt l.isLt, ← Nat.shiftLeft_add_eq_or_of_lt m.isLt]
    simp [Nat.shiftLeft_eq]; omega
  have hl : (h ++ m ++ l : BitVec 16).extractLsb' 0 3 = l := BitVec.extractLsb'_append_eq_right
  have hL : ((h ++ 0#10 ++ l : BitVec 16)).toNat = h.toNat * 8192 + l.toNat := by
    rw [BitVec.toNat_append, BitVec.toNat_append, ← Nat.shiftLeft_add_eq_or_of_lt l.isLt]
    simp [Nat.shiftLeft_eq]; omega
  have hR : ((1#3 ++ 0#10 ++ i : BitVec 16)).toNat = 8192 + i.toNat := by
    rw [BitVec.toNat_append, BitVec.toNat_append, ← Nat.shiftLeft_add_eq_or_of_lt i.isLt]
    simp [Nat.shiftLeft_eq]
  unfold addrIsReg
  rw [e1, e2, BitVec.and_append, BitVec.and_append, beq_iff_eq,
    show h &&& 7#3 = h from BitVec.and_allOnes, show l &&& 7#3 = l from BitVec.and_allOnes, BitVec.and_zero, hl,
    ← BitVec.toNat_inj, hL, hR, BitVec.le_def, BitVec.le_def, hN, ← BitVec.toNat_inj]
  have := h.isLt; have := m.isLt; have := l.isLt; have := i.isLt
  simp only [BitVec.toNat_ofNat]
  omega

theorem selectTarget_ram (a : Addr) : selectTarget a = .ram ↔ addrIsRam a = true := by
  unfold selectTarget addrIsRam
  split
  · simp_all
  · repeat' split
    all_goals simp_all

theorem selectTarget_reg (i : BitVec 3) (a : Addr) : selectTarget a = .reg i ↔ addrIsReg i a = true := by
  rw [addrIsReg_iff]
  unfold selectTarget
  repeat' split
  all_goals simp only [BusTarget.reg.injEq, reduceCtorEq, false_iff]
  all_goals simp_all
  all_goals (try bv_omega)

theorem selectTarget_oamDma (a : Addr) : selectTarget a = .oamDma ↔ a = 0x4014#16 := by
  unfold selectTarget
  repeat' split
  all_goals simp_all
  all_goals bv_omega

theorem selectTarget_input (a : Addr) : selectTarget a = .input ↔ a = 0x4016#16 := by
  unfold selectTarget
  repeat' split
  all_goals simp_all
  all_goals bv_omega

theorem selectTarget_prg (a : Addr) : selectTarget a = .prg ↔ addrIsPrg a = true := by
  unfold selectTarget addrIsPrg
  repeat' split
  all_goals simp_all
  all_goals bv_omega

theorem selectTarget_unmapped (a : Addr) : selectTarget a = .unmapped ↔ addrIsUnmapped a = true := by
  unfold selectTarget addrIsUnmapped
  repeat' split
  all_goals simp_all
  all_goals bv_omega

end Sys2Proof
end

