-- ==== Sys2Proof/Laws/Ops.lean ====
section
/-! SUPPORT. For each shared operation, everything it can change, said once: the operation's state equals the old one but
for the fields named. Provers cite these instead of unfolding the operation. -/

namespace Sys2Proof.Machine

/-- A PPU register read changes at most `v`, the read buffer, the three things a Status read clears, and the mapper. -/
theorem ppuRead_frame (i : BitVec 3) (s : State) :
    (ppuRead i s).2 = { s with
      ppu := { s.ppu with
        v := (ppuRead i s).2.ppu.v
        readBuffer := (ppuRead i s).2.ppu.readBuffer
        inVblank := (ppuRead i s).2.ppu.inVblank
        writeToggle := (ppuRead i s).2.ppu.writeToggle
        pending := (ppuRead i s).2.ppu.pending }
      mapper := (ppuRead i s).2.mapper } := by
  unfold ppuRead
  split
  · rfl
  · rfl
  · unfold readData
    simp only
    split
    · rfl
    · split <;> rfl
  · rfl

/-- A PPU register write changes at most the image, `v`, `t`, fine X, the toggle, OAM and its cursor, VRAM, the show flags,
the PPU's slot and the mapper. -/
theorem ppuWrite_frame (i : BitVec 3) (b : Byte) (s : State) :
    (ppuWrite i b s).2 = { s with
      ppu := { s.ppu with
        registers := (ppuWrite i b s).2.ppu.registers
        v := (ppuWrite i b s).2.ppu.v
        t := (ppuWrite i b s).2.ppu.t
        fineX := (ppuWrite i b s).2.ppu.fineX
        writeToggle := (ppuWrite i b s).2.ppu.writeToggle
        oam := (ppuWrite i b s).2.ppu.oam
        oamAddr := (ppuWrite i b s).2.ppu.oamAddr
        vram := (ppuWrite i b s).2.ppu.vram
        showBackground := (ppuWrite i b s).2.ppu.showBackground
        showSprites := (ppuWrite i b s).2.ppu.showSprites
        pending := (ppuWrite i b s).2.ppu.pending }
      mapper := (ppuWrite i b s).2.mapper } := by
  unfold ppuWrite
  split
  · rfl
  · rfl
  · rfl
  · rfl
  · unfold writeOamData
    simp only
    split <;> rfl
  · unfold writeScroll
    simp only
    split <;> rfl
  · unfold writeAddress
    simp only
    split <;> rfl
  · unfold writeData
    simp only
    split <;> rfl

/-- Only the Control write raises, and it raises NMI or nothing (41_ppu_registers.md R140). -/
theorem ppuWrite_raises (i : BitVec 3) (b : Byte) (s : State) :
    (ppuWrite i b s).1 = if i = 0 then controlRaises s.ppu.ctrl b s.ppu.inVblank else none := by
  unfold ppuWrite
  split
  · next h => rw [if_pos (BitVec.eq_of_toNat_eq h)]
  all_goals
    next h =>
      rw [if_neg]
      rintro rfl
      simp_all

/-- The OAM-data write changes the image, the cursor and, when it is admitted, one byte of OAM. -/
theorem writeOamData_eq (b : Byte) (p : Ppu) :
    writeOamData b p = { p.setRegister 4 b with
      oam := if activeRendering p then p.oam else p.oam.write Config.initOam p.oamAddr.toNat b
      oamAddr := p.oamAddr + 1 } := by
  unfold writeOamData
  simp only
  split <;> rfl

/-- A bus read changes at most what a PPU register read changes, and the two collaborators. -/
theorem busRead_frame (a : Addr) (s : State) :
    (busRead a s).2 = { s with
      ppu := { s.ppu with
        v := (busRead a s).2.ppu.v
        readBuffer := (busRead a s).2.ppu.readBuffer
        inVblank := (busRead a s).2.ppu.inVblank
        writeToggle := (busRead a s).2.ppu.writeToggle
        pending := (busRead a s).2.ppu.pending }
      mapper := (busRead a s).2.mapper
      input := (busRead a s).2.input } := by
  unfold busRead
  split
  · rfl
  · next i _ =>
    have h := ppuRead_frame i s
    exact h.trans (by rw [h])
  all_goals rfl

/-- A PPU register read neither uses nor touches the reply. -/
theorem ppuRead_setReply (i : BitVec 3) (s : State) (r : Reply) :
    ppuRead i (s.setReply r) = ((ppuRead i s).1, (ppuRead i s).2.setReply r) := by
  unfold ppuRead
  split
  · rfl
  · rfl
  · unfold readData
    simp only [State.setReply_ppu]
    by_cases hp : Config.paletteBase ≤ dataAddr s.ppu.v
    · simp only [hp, ↓reduceIte]; rfl
    · by_cases hc : dataAddr s.ppu.v < Config.chrLimit <;> simp only [hp, hc, ↓reduceIte] <;> rfl
  · rfl

/-- A PPU register write neither uses nor touches the reply. -/
theorem ppuWrite_setReply (i : BitVec 3) (b : Byte) (s : State) (r : Reply) :
    ppuWrite i b (s.setReply r) = ((ppuWrite i b s).1, (ppuWrite i b s).2.setReply r) := by
  unfold ppuWrite
  split
  case h_8 =>
    unfold writeData
    simp only [State.setReply_ppu]
    by_cases hc : dataAddr s.ppu.v < Config.chrLimit <;> simp only [hc, ↓reduceIte] <;> rfl
  all_goals rfl

/-- A bus read neither uses nor touches the reply, so the pairs of an OAM DMA run as separate operations do. -/
theorem busRead_setReply (a : Addr) (s : State) (r : Reply) :
    busRead a (s.setReply r) = ((busRead a s).1, (busRead a s).2.setReply r) := by
  unfold busRead
  split
  · rfl
  · exact ppuRead_setReply _ s r
  all_goals rfl

/-- A dot changes at most `v`, the position, the three status flags and the PPU's slot (42_ppu_timing.md R178). -/
theorem stepPpu_frame (p : Ppu) :
    stepPpu p = { p with
      v := (stepPpu p).v
      scanline := (stepPpu p).scanline
      dot := (stepPpu p).dot
      oddFrame := (stepPpu p).oddFrame
      inVblank := (stepPpu p).inVblank
      spriteZeroHit := (stepPpu p).spriteZeroHit
      spriteOverflow := (stepPpu p).spriteOverflow
      pending := (stepPpu p).pending } := by
  have ha : ∀ q : Ppu, advance q = { q with
      scanline := (advance q).scanline, dot := (advance q).dot, oddFrame := (advance q).oddFrame } := by
    intro q
    unfold advance
    repeat' split
    all_goals rfl
  have h1 : ∀ q : Ppu, preRenderEvent q = { q with
      inVblank := (preRenderEvent q).inVblank
      spriteZeroHit := (preRenderEvent q).spriteZeroHit
      spriteOverflow := (preRenderEvent q).spriteOverflow } := by
    intro q
    unfold preRenderEvent
    split <;> rfl
  have h2 : ∀ q : Ppu, vblankEvent q = { q with
      inVblank := (vblankEvent q).inVblank, pending := (vblankEvent q).pending } := by
    intro q
    unfold vblankEvent
    split <;> rfl
  have h3 : ∀ q : Ppu, horizontalEvent q = { q with v := (horizontalEvent q).v } := by
    intro q
    unfold horizontalEvent
    split <;> rfl
  have h4 : ∀ q : Ppu, verticalEvent q = { q with v := (verticalEvent q).v } := by
    intro q
    unfold verticalEvent
    split <;> rfl
  unfold stepPpu positionEvents
  rw [ha (verticalEvent _), h4 (horizontalEvent _), h3 (vblankEvent _), h2 (preRenderEvent _), h1 p]

/-- The events of a position leave the position alone. -/
theorem positionEvents_position (p : Ppu) :
    (positionEvents p).scanline = p.scanline ∧ (positionEvents p).dot = p.dot ∧ (positionEvents p).oddFrame = p.oddFrame := by
  unfold positionEvents verticalEvent horizontalEvent vblankEvent preRenderEvent
  refine ⟨?_, ?_, ?_⟩ <;> repeat' split
  all_goals rfl

/-- Pair by pair, OAM DMA changes at most what a bus read and an OAM-data write change. -/
theorem dmaPairs_frame (p : Byte) (n : Nat) (s : State) :
    dmaPairs p n s = { s with
      ppu := { s.ppu with
        registers := (dmaPairs p n s).ppu.registers
        v := (dmaPairs p n s).ppu.v
        writeToggle := (dmaPairs p n s).ppu.writeToggle
        oam := (dmaPairs p n s).ppu.oam
        oamAddr := (dmaPairs p n s).ppu.oamAddr
        readBuffer := (dmaPairs p n s).ppu.readBuffer
        inVblank := (dmaPairs p n s).ppu.inVblank
        pending := (dmaPairs p n s).ppu.pending }
      mapper := (dmaPairs p n s).mapper
      input := (dmaPairs p n s).input } := by
  let kept : State → _ := fun r => (r.ram, r.busPending, r.dmaStall, r.ppu.t, r.ppu.fineX, r.ppu.secondaryOam, r.ppu.vram,
    r.ppu.scanline, r.ppu.dot, r.ppu.oddFrame, r.ppu.showBackground, r.ppu.showSprites, r.ppu.spriteZeroHit,
    r.ppu.spriteOverflow, r.sink, r.commands, r.reply)
  have hw : ∀ (b : Byte) (r : State), kept (ppuWrite 4 b r).2 = kept r := by
    intro b r
    rw [show (ppuWrite 4 b r).2 = r.setPpu (writeOamData b r.ppu) from rfl, writeOamData_eq]
    rfl
  have h : kept (dmaPairs p n s) = kept s := by
    induction n with
    | zero => rfl
    | succ k ih => exact (hw _ _).trans ((congrArg kept (busRead_frame _ _)).trans ih)
  generalize dmaPairs p n s = r at h ⊢
  obtain ⟨_, _, _, ⟨⟩, _, _, _, _, _⟩ := r
  obtain ⟨_, _, _, ⟨⟩, _, _, _, _, _⟩ := s
  simp only [kept, Prod.mk.injEq] at h
  simp only [h]

/-- The steps of a TICK change at most what dots change, and the Bus's slot (44_bus_dma_tick_irq.md R233). -/
theorem busSteps_frame (n : Nat) (s : State) :
    busSteps n s = { s with
      busPending := (busSteps n s).busPending
      ppu := { s.ppu with
        v := (busSteps n s).ppu.v
        scanline := (busSteps n s).ppu.scanline
        dot := (busSteps n s).ppu.dot
        oddFrame := (busSteps n s).ppu.oddFrame
        inVblank := (busSteps n s).ppu.inVblank
        spriteZeroHit := (busSteps n s).ppu.spriteZeroHit
        spriteOverflow := (busSteps n s).ppu.spriteOverflow
        pending := (busSteps n s).ppu.pending } } := by
  let kept : State → _ := fun r => (r.ram, r.dmaStall, r.ppu.registers, r.ppu.t, r.ppu.fineX, r.ppu.writeToggle, r.ppu.oam,
    r.ppu.oamAddr, r.ppu.secondaryOam, r.ppu.vram, r.ppu.readBuffer, r.ppu.showBackground, r.ppu.showSprites, r.sink,
    r.mapper, r.input, r.commands, r.reply)
  have hb : ∀ r : State, kept (busStep r) = kept r := by
    intro r
    show kept { r with busPending := (busStep r).busPending, ppu := stepPpu r.ppu } = _
    rw [stepPpu_frame]
  have h : kept (busSteps n s) = kept s := by
    induction n with
    | zero => rfl
    | succ k ih => exact (hb _).trans ih
  generalize busSteps n s = r at h ⊢
  obtain ⟨_, _, _, ⟨⟩, _, _, _, _, _⟩ := r
  obtain ⟨_, _, _, ⟨⟩, _, _, _, _, _⟩ := s
  simp only [kept, Prod.mk.injEq] at h
  simp only [h]

/-- A read call is recorded, whatever it answers. -/
theorem Mapper.ask_calls (m : Mapper) (c : MapperCall) : (m.ask c).2.calls = c :: m.calls := by
  unfold Mapper.ask
  split <;> rfl

/-- A read call is recorded, whatever it answers. -/
theorem InputDevice.ask_calls (d : InputDevice) : d.ask.2.calls = .read :: d.calls := by
  unfold InputDevice.ask
  split <;> rfl

/-- A list of operations runs as its first part and then its second. -/
theorem execAll_append {is js : List Instr} {s t : State} (h : execAll is s = .next t) :
    execAll (is ++ js) s = execAll js t := by
  induction is generalizing s with
  | nil => cases h; rfl
  | cons i rest ih =>
    simp only [execAll, List.cons_append] at h ⊢
    split at h
    · exact ih h
    · cases h
    · cases h

end Sys2Proof.Machine
end

