-- ==== Sys2Proof/Laws/Scroll.lean ====
section
/-! SUPPORT. The ScrollRegister functions bit by bit: what each mask and each field write of Operands.lean does to every bit,
and SR_BUMP as arithmetic. -/

namespace Sys2Proof.Machine


/-- A ScrollRegister has no bit above bit 14. -/
theorem scroll_bit_high (x : Scroll) {k : Nat} (h : 15 ≤ k) : x.getLsbD k = false := BitVec.getLsbD_of_ge x k h

theorem getLsbD_withBits (m x y : Scroll) (k : Nat) :
    (withBits m x y).getLsbD k = if m.getLsbD k then y.getLsbD k else x.getLsbD k := by
  unfold withBits
  by_cases hk : k < 15
  · by_cases h : m.getLsbD k = true
    · simp only [BitVec.getLsbD_or, BitVec.getLsbD_and, BitVec.getLsbD_not, h]; simp
    · simp only [Bool.not_eq_true] at h
      simp only [BitVec.getLsbD_or, BitVec.getLsbD_and, BitVec.getLsbD_not, h]; simp [hk]
  · simp only [scroll_bit_high _ (Nat.le_of_not_lt hk)]; simp

/-- Two descriptions of a word's bits agree when they agree on its 15 bits and the second is empty above them. -/
theorem scroll_bits_of_fin (m : Scroll) (f : Nat → Bool) (h : ∀ j : Fin 15, m.getLsbD j = f j)
    (hf : ∀ k, 15 ≤ k → f k = false) (k : Nat) : m.getLsbD k = f k := by
  by_cases hk : k < 15
  · exact h ⟨k, hk⟩
  · rw [scroll_bit_high m (Nat.le_of_not_lt hk), hf k (Nat.le_of_not_lt hk)]

theorem fineYMask_bit (k : Nat) : fineYMask.getLsbD k = (decide (12 ≤ k) && decide (k < 15)) :=
  scroll_bits_of_fin fineYMask (fun k => (decide (12 ≤ k) && decide (k < 15))) (by decide) (fun k h => by simp; omega) k

theorem coarseYMask_bit (k : Nat) : coarseYMask.getLsbD k = (decide (5 ≤ k) && decide (k < 10)) :=
  scroll_bits_of_fin coarseYMask (fun k => (decide (5 ≤ k) && decide (k < 10))) (by decide) (fun k h => by simp; omega) k

theorem coarseXMask_bit (k : Nat) : coarseXMask.getLsbD k = decide (k < 5) :=
  scroll_bits_of_fin coarseXMask (fun k => decide (k < 5)) (by decide) (fun k h => by simp; omega) k

theorem nametableMask_bit (k : Nat) : nametableMask.getLsbD k = (decide (10 ≤ k) && decide (k < 12)) :=
  scroll_bits_of_fin nametableMask (fun k => (decide (10 ≤ k) && decide (k < 12))) (by decide) (fun k h => by simp; omega) k

theorem hNtMask_bit (k : Nat) : hNtMask.getLsbD k = decide (k = Config.hNtBit) :=
  scroll_bits_of_fin hNtMask (fun k => decide (k = Config.hNtBit)) (by decide) (fun k h => decide_eq_false (by unfold Config.hNtBit; omega)) k

theorem vNtMask_bit (k : Nat) : vNtMask.getLsbD k = decide (k = Config.vNtBit) :=
  scroll_bits_of_fin vNtMask (fun k => decide (k = Config.vNtBit)) (by decide) (fun k h => decide_eq_false (by unfold Config.vNtBit; omega)) k

theorem setCoarseX_bit (x : Scroll) (c : BitVec 5) (k : Nat) :
    (setCoarseX x c).getLsbD k = if k < 5 then c.getLsbD k else x.getLsbD k := by
  simp only [setCoarseX, getLsbD_withBits, coarseXMask_bit, BitVec.getLsbD_setWidth, decide_eq_true_eq]
  split
  · simp; omega
  · rfl

theorem setCoarseY_bit (x : Scroll) (c : BitVec 5) (k : Nat) :
    (setCoarseY x c).getLsbD k = if 5 ≤ k ∧ k < 10 then c.getLsbD (k - 5) else x.getLsbD k := by
  simp only [setCoarseY, getLsbD_withBits, coarseYMask_bit, BitVec.getLsbD_shiftLeft, BitVec.getLsbD_setWidth, Bool.and_eq_true, decide_eq_true_eq]
  split
  · next h => simp [show k < 15 by omega, show ¬ k < 5 by omega, show k - 5 < 15 by omega]
  · rfl

theorem setFineY_bit (x : Scroll) (c : BitVec 3) (k : Nat) :
    (setFineY x c).getLsbD k = if 12 ≤ k ∧ k < 15 then c.getLsbD (k - 12) else x.getLsbD k := by
  simp only [setFineY, getLsbD_withBits, fineYMask_bit, BitVec.getLsbD_shiftLeft, BitVec.getLsbD_setWidth, Bool.and_eq_true, decide_eq_true_eq]
  split
  · next h => simp [show k < 15 by omega, show ¬ k < 12 by omega, show k - 12 < 15 by omega]
  · rfl

theorem setNametable_bit (x : Scroll) (c : BitVec 2) (k : Nat) :
    (setNametable x c).getLsbD k = if 10 ≤ k ∧ k < 12 then c.getLsbD (k - 10) else x.getLsbD k := by
  simp only [setNametable, getLsbD_withBits, nametableMask_bit, BitVec.getLsbD_shiftLeft, BitVec.getLsbD_setWidth, Bool.and_eq_true, decide_eq_true_eq]
  split
  · next h => simp [show k < 15 by omega, show ¬ k < 10 by omega, show k - 10 < 15 by omega]
  · rfl

theorem bump_toNat (n x : Scroll) : (bump n x).toNat = (x.toNat + n.toNat) % 0x4000 := by
  have h : (0x3FFF#15).toNat = 2 ^ 14 - 1 := by decide
  rw [bump, BitVec.toNat_and, h, Nat.and_two_pow_sub_one_eq_mod, BitVec.toNat_add]
  omega

end Sys2Proof.Machine
end

