-- ==== Sys2Proof/Tests/Slice0.lean ====
section
/-! SUPPORT. The model's own tests: the well-formedness checks, the decoding of words written out from the spec's encodings, one
step of each operation on a small state, and for every obligation with hypotheses a state and operands that meet them.
Expected values come from 95_test_vectors.md (P = its section 1, otherwise its section 2) or from the rule cited. -/

namespace Sys2Proof.Tests

open Sys2Proof.Machine

/-- A state that differs from the reset state in its PPU part only. -/
def ppuState (p : Ppu) : State := { State.reset with ppu := p }

/-- A state that differs from the reset state in `v` only. -/
def atV (v : Scroll) : State := ppuState { Ppu.powerOn with v := v }

/-- A state whose timer stands at the given position, with the given control byte. -/
def atDot (scanline dot : Nat) (oddFrame : Bool) (ctrl : Byte) : State :=
  ppuState { Ppu.powerOn.setRegister 0 ctrl with scanline := scanline, dot := dot, oddFrame := oddFrame }

/-- The state after an operation. -/
def run (i : Instr) (s : State) : State :=
  match exec i s with
  | .next t => t
  | .fault _ => s
  | .refused _ => s

/-- Whether a command word is refused with the given reason. -/
def refusedWith (w : Command) (e : Reject) : Bool :=
  match decode w with
  | .ok _ => false
  | .error r => r == e

/-! ### WellFormed: one ill-formed term for each check, refused; its good neighbour accepted -/

theorem test_wellFormed_ram :
    wellFormed (.rdRam 0x2000) = false ∧ wellFormed (.wrRam 0x2000 1) = false ∧ wellFormed (.rdRam 0x1FFF) = true := by
  decide

theorem test_wellFormed_registers :
    wellFormed (.rdPpuctrl 0x2001) = false ∧ wellFormed (.wrPpuctrl 0x4000 0) = false ∧
    wellFormed (.rdPpumask 0x2000) = false ∧ wellFormed (.wrPpumask 0x1FF9 0) = false ∧
    wellFormed (.rdPpustatus 0x2003) = false ∧ wellFormed (.wrPpustatus 0x2006 0) = false ∧
    wellFormed (.rdOamaddr 0x2002) = false ∧ wellFormed (.wrOamaddr 0x2007 0) = false ∧
    wellFormed (.rdOamdata 0x2005) = false ∧ wellFormed (.wrOamdata 0x2000 0) = false ∧
    wellFormed (.rdPpuscroll 0x2006) = false ∧ wellFormed (.wrPpuscroll 0x2001 0) = false ∧
    wellFormed (.rdPpuaddr 0x2007) = false ∧ wellFormed (.wrPpuaddr 0x4006 0) = false ∧
    wellFormed (.rdPpudata 0x4007) = false ∧ wellFormed (.wrPpudata 0x2006 0) = false ∧
    wellFormed (.rdPpudata 0x3FFF) = true := by
  decide

theorem test_wellFormed_upper :
    wellFormed (.rdUnmapped 0x4014) = false ∧ wellFormed (.wrUnmapped 0x4016 0) = false ∧
    wellFormed (.rdUnmapped 0x4020) = false ∧ wellFormed (.wrUnmapped 0x3FFF 0) = false ∧
    wellFormed (.rdPrg 0x401F) = false ∧ wellFormed (.wrPrg 0x0000 0) = false ∧
    wellFormed (.rdUnmapped 0x4015) = true ∧ wellFormed (.rdPrg 0x4020) = true := by
  decide

theorem test_wellFormed_tick : wellFormed (.tick 65536) = false ∧ wellFormed (.tick 65535) = true := by decide

/-! ### Decoding: words written out from 30_encoding.md (`op`, `sub`, `a`, `d`) -/

theorem test_decode_busReads :
    decode 0x00080000#32 = .ok (.rdRam 0x0800) ∧ decode 0x003FF800#32 = .ok (.rdPpuctrl 0x3FF8) ∧
    decode 0x00200100#32 = .ok (.rdPpumask 0x2001) ∧ decode 0x00200200#32 = .ok (.rdPpustatus 0x2002) ∧
    decode 0x00200300#32 = .ok (.rdOamaddr 0x2003) ∧ decode 0x003FFC00#32 = .ok (.rdOamdata 0x3FFC) ∧
    decode 0x00200500#32 = .ok (.rdPpuscroll 0x2005) ∧ decode 0x00200600#32 = .ok (.rdPpuaddr 0x2006) ∧
    decode 0x00200700#32 = .ok (.rdPpudata 0x2007) ∧ decode 0x00401400#32 = .ok .rdOamdma ∧
    decode 0x00401600#32 = .ok .rdInput ∧ decode 0x00401500#32 = .ok (.rdUnmapped 0x4015) ∧
    decode 0x00FFFF00#32 = .ok (.rdPrg 0xFFFF) := by
  refine ⟨?_, ?_, ?_, ?_, ?_, ?_, ?_, ?_, ?_, ?_, ?_, ?_, ?_⟩ <;> rfl

theorem test_decode_busWrites :
    decode 0x101FFF22#32 = .ok (.wrRam 0x1FFF 0x22) ∧ decode 0x10200004#32 = .ok (.wrPpuctrl 0x2000 0x04) ∧
    decode 0x10200108#32 = .ok (.wrPpumask 0x2001 0x08) ∧ decode 0x102002FF#32 = .ok (.wrPpustatus 0x2002 0xFF) ∧
    decode 0x103FFB44#32 = .ok (.wrOamaddr 0x3FFB 0x44) ∧ decode 0x102A0C99#32 = .ok (.wrOamdata 0x2A0C 0x99) ∧
    decode 0x1020057D#32 = .ok (.wrPpuscroll 0x2005 0x7D) ∧ decode 0x10200680#32 = .ok (.wrPpuaddr 0x2006 0x80) ∧
    decode 0x1020075A#32 = .ok (.wrPpudata 0x2007 0x5A) ∧ decode 0x10401402#32 = .ok (.wrOamdma 0x02) ∧
    decode 0x10401601#32 = .ok (.wrInput 0x01) ∧ decode 0x10401F01#32 = .ok (.wrUnmapped 0x401F 0x01) ∧
    decode 0x10402007#32 = .ok (.wrPrg 0x4020 0x07) := by
  refine ⟨?_, ?_, ?_, ?_, ?_, ?_, ?_, ?_, ?_, ?_, ?_, ?_, ?_⟩ <;> rfl

theorem test_decode_tickSysExt :
    decode 0x206B0300#32 = .ok (.tick 27395) ∧ decode 0x30000000#32 = .ok .reset ∧
    decode 0x31000000#32 = .ok .powerOn ∧ decode 0x32000000#32 = .ok .intPeek ∧
    decode 0x33000000#32 = .ok .intTake ∧ decode 0x34000000#32 = .ok .dmaPeek ∧
    decode 0x35000000#32 = .ok .dmaClear ∧ decode 0x36000000#32 = .ok .ppuIntAck ∧
    decode 0x41000000#32 = .ok .extRaiseNmi ∧ decode 0x42000000#32 = .ok .extRaiseIrq := by
  refine ⟨?_, ?_, ?_, ?_, ?_, ?_, ?_, ?_, ?_, ?_⟩ <;> rfl

theorem test_decode_rendPpu :
    decode 0x50000000#32 = .ok .rendIncX ∧ decode 0x51000000#32 = .ok .rendIncY ∧
    decode 0x52000000#32 = .ok .rendSetS0hit ∧ decode 0x53000000#32 = .ok .rendSetOvf ∧
    decode 0x54001F9C#32 = .ok (.rendSecoamWr 31 0x9C) ∧ decode 0x58000000#32 = .ok .qV ∧
    decode 0x59000000#32 = .ok .qFinex ∧ decode 0x5A00FF00#32 = .ok (.qOam 255) ∧
    decode 0x5B000300#32 = .ok (.qSecoam 3) ∧ decode 0x5C000400#32 = .ok (.qReg 4) ∧
    decode 0x60000000#32 = .ok .ppuStep ∧ decode 0x61000700#32 = .ok (.ppuRegRd 7) ∧
    decode 0x62000083#32 = .ok (.ppuRegWr 0 0x83) := by
  refine ⟨?_, ?_, ?_, ?_, ?_, ?_, ?_, ?_, ?_, ?_, ?_, ?_, ?_⟩ <;> rfl

theorem test_decode_srFs :
    decode 0x70000000#32 = .ok (.srIncX .v) ∧ decode 0x71800000#32 = .ok (.srIncY .t) ∧
    decode 0x72000000#32 = .ok (.srSetH .v) ∧ decode 0x73800000#32 = .ok (.srSetV .t) ∧
    decode 0x75800000#32 = .ok (.srRaw .t) ∧ decode 0x74000001#32 = .ok (.srBump1 .v) ∧
    decode 0x74800020#32 = .ok (.srBump32 .t) ∧ decode 0x76001F00#32 = .ok (.srSetRaw .v 0x001F) ∧
    decode 0x80123456#32 = .ok (.fsSetPixel 0x123456) := by
  refine ⟨?_, ?_, ?_, ?_, ?_, ?_, ?_, ?_, ?_⟩ <;> rfl

/-- The edges of the address decode (20_memory.md R61). -/
theorem test_selectTarget_edges :
    selectTarget 0x1FFF = .ram ∧ selectTarget 0x2000 = .reg 0 ∧ selectTarget 0x3FFF = .reg 7 ∧
    selectTarget 0x4000 = .unmapped ∧ selectTarget 0x4013 = .unmapped ∧ selectTarget 0x4014 = .oamDma ∧
    selectTarget 0x4015 = .unmapped ∧ selectTarget 0x4016 = .input ∧ selectTarget 0x4017 = .unmapped ∧
    selectTarget 0x401F = .unmapped ∧ selectTarget 0x4020 = .prg ∧ selectTarget 0xFFFF = .prg := by
  decide

/-- The encoder on words of the vectors, field by field. -/
theorem test_encode :
    encode (.srSetRaw .t 0x1234) = 0x76923400#32 ∧ encode (.rendSecoamWr 3 0x9C) = 0x5400039C#32 ∧
    encode (.wrOamdma 0x02) = 0x10401402#32 ∧ encode (.tick 27395) = 0x206B0300#32 := by
  decide

theorem test_opcodeRows_length : opcodeRows.length = 84 := by decide

/-- Two rows overlap when no bit that both fix differs. -/
def overlap (r q : OpcodeRow) : Bool := (r.pattern ^^^ q.pattern) &&& (r.mask &&& q.mask) == 0

theorem test_opcodeRows_disjoint : opcodeRows.Pairwise (fun r q => overlap r q = false) := by decide

/-! ### The two entry points the host uses -/

theorem test_decodeTableWord :
    decodeTableWord 32 0x206B0300 = some (.tick 27395) ∧ decodeTableWord 32 0x90000000 = none := by
  decide

theorem test_withFetchWord : step (State.reset.withFetchWord 32 0x101FFF22) = exec (.wrRam 0x1FFF 0x22) State.reset := rfl

/-- R117: a refused word stops the step, with the decoder's reason. -/
theorem test_step_refuses :
    step (State.reset.withFetchWord 32 0x74000002) = .refused (.noOperation (.bumpAmount 2)) := rfl

/-- R313: nothing happens by itself. -/
theorem test_step_idle : step State.reset = .next State.reset := rfl

/-! ### One step of each operation -/

/-- P1. -/
theorem test_rdRam : (run (.rdRam 0x1234) (State.reset.storeRam 0x234 0x33)).reply = .byte 0x33 := by decide

/-- P1. -/
theorem test_wrRam : (run (.wrRam 0x1FFF 0x22) State.reset).ram = [(0x7FF, 0x22)] := by decide

/-- R196, R198, R202, R206, R208: write-only registers read 0. -/
theorem test_rdWriteOnly :
    (run (.rdPpuctrl 0x2000) (atDot 0 0 false 0xFF)).reply = .byte 0 ∧
    (run (.rdPpumask 0x2001) (atDot 0 0 false 0xFF)).reply = .byte 0 ∧
    (run (.rdOamaddr 0x2003) (atDot 0 0 false 0xFF)).reply = .byte 0 ∧
    (run (.rdPpuscroll 0x2005) (atDot 0 0 false 0xFF)).reply = .byte 0 ∧
    (run (.rdPpuaddr 0x2006) (atDot 0 0 false 0xFF)).reply = .byte 0 ∧
    (run (.ppuRegRd 0) (atDot 0 0 false 0xFF)).reply = .byte 0 := by
  decide

/-- R142, R197 (decision D17): the edge during vertical blank, in both slots. -/
theorem test_wrPpuctrl_edge :
    (run (.wrPpuctrl 0x2000 0x83) (ppuState { Ppu.powerOn with inVblank := true })).busPending = some .nmi ∧
    (run (.wrPpuctrl 0x2000 0x83) (ppuState { Ppu.powerOn with inVblank := true })).ppu.t = 0x0C00 := by
  decide

/-- Section 2.2: a second write of the same value is no edge. -/
theorem test_wrPpuctrl_noEdge :
    (run (.wrPpuctrl 0x2000 0x80) (ppuState { Ppu.powerOn.setRegister 0 0x80 with inVblank := true })).busPending = none := by
  decide

/-- Section 2.2. -/
theorem test_wrPpumask :
    (run (.wrPpumask 0x2001 0x10) State.reset).ppu.showSprites = true ∧
    (run (.wrPpumask 0x2001 0x10) State.reset).ppu.showBackground = false := by
  decide

/-- Section 2.2: the status byte $E0, and the three clears. -/
theorem test_rdPpustatus :
    let p : Ppu := { Ppu.powerOn with
      inVblank := true, spriteZeroHit := true, spriteOverflow := true, writeToggle := true, pending := some .nmi }
    (run (.rdPpustatus 0x2002) (ppuState p)).reply = .byte 0xE0 ∧
    (run (.rdPpustatus 0x2002) (ppuState p)).ppu =
      { Ppu.powerOn with spriteZeroHit := true, spriteOverflow := true } := by
  decide

/-- R145. -/
theorem test_wrPpustatus : run (.wrPpustatus 0x2002 0xFF) State.reset = State.reset := by decide

/-- P2. -/
theorem test_wrOamaddr : (run (.wrOamaddr 0x3FFB 0x44) State.reset).ppu.oamAddr = 0x44 := by decide

/-- P7: the read leaves the cursor alone. -/
theorem test_rdOamdata :
    (run (.rdOamdata 0x2004) (ppuState { Ppu.powerOn.storeOam 0xFE 0xA1 with oamAddr := 0xFE })).reply = .byte 0xA1 ∧
    (run (.rdOamdata 0x2004) (ppuState { Ppu.powerOn with oamAddr := 0xFE })).ppu.oamAddr = 0xFE := by
  decide

/-- P7: the cursor wraps. -/
theorem test_wrOamdata_wraps :
    (run (.wrOamdata 0x2004 0xA2) (ppuState { Ppu.powerOn with oamAddr := 0xFF })).ppu.oam = [(255, 0xA2)] ∧
    (run (.wrOamdata 0x2004 0xA2) (ppuState { Ppu.powerOn with oamAddr := 0xFF })).ppu.oamAddr = 0 := by
  decide

/-- Section 2.2, the arbiter: the byte is dropped on scanline 0, the cursor advances. -/
theorem test_wrOamdata_dropped :
    (run (.wrOamdata 0x2004 0xBB) (ppuState { Ppu.powerOn with showBackground := true, oamAddr := 0x11 })).ppu.oam = [] ∧
    (run (.wrOamdata 0x2004 0xBB) (ppuState { Ppu.powerOn with showBackground := true, oamAddr := 0x11 })).ppu.oamAddr =
      0x12 := by
  decide

/-- Section 2.2. -/
theorem test_wrPpuscroll :
    (run (.wrPpuscroll 0x2005 0x7D) State.reset).ppu.t = 0x000F ∧
    (run (.wrPpuscroll 0x2005 0x7D) State.reset).ppu.fineX = 5 ∧
    (run (.wrPpuscroll 0x2005 0x5E) (ppuState { Ppu.powerOn with t := 0x000F, writeToggle := true })).ppu.t = 0x616F := by
  decide

/-- Section 2.2: the first byte $FF on t = $7000 gives $3F00; the second byte $AB copies. -/
theorem test_wrPpuaddr :
    (run (.wrPpuaddr 0x2006 0xFF) (ppuState { Ppu.powerOn with t := 0x7000 })).ppu.t = 0x3F00 ∧
    (run (.wrPpuaddr 0x2006 0xAB) (ppuState { Ppu.powerOn with t := 0x3F00, writeToggle := true })).ppu.v = 0x3FAB := by
  decide

/-- Section 2.2: the one-read delay, and the palette read that refreshes from $2F00. -/
theorem test_rdPpudata :
    (run (.rdPpudata 0x2007) (ppuState { Ppu.powerOn.storeVram 0x2401 0x5B with v := 0x2401, readBuffer := 0x5A })).reply =
      .byte 0x5A ∧
    (run (.rdPpudata 0x2007)
      (ppuState { (Ppu.powerOn.storeVram 0x3F00 0x2C).storeVram 0x2F00 0x77 with v := 0x3F00 })).reply = .byte 0x2C ∧
    (run (.rdPpudata 0x2007)
      (ppuState { (Ppu.powerOn.storeVram 0x3F00 0x2C).storeVram 0x2F00 0x77 with v := 0x3F00 })).ppu.readBuffer = 0x77 := by
  decide

/-- Section 2.2: below CHR_LIMIT the buffer is refreshed by the mapper's answer. -/
theorem test_rdPpudata_chr :
    (run (.rdPpudata 0x2007) { atV 0x0010 with mapper := ⟨[], [0xC1]⟩ }).ppu.readBuffer = 0xC1 ∧
    (run (.rdPpudata 0x2007) { atV 0x0010 with mapper := ⟨[], [0xC1]⟩ }).mapper.calls = [.readChr 0x0010] := by
  decide

/-- Section 2.2: increment 32 and the wrap of v; $1FFF is the mapper's. -/
theorem test_wrPpudata :
    (run (.wrPpudata 0x2007 0x01) (ppuState { Ppu.powerOn.setRegister 0 0x04 with v := 0x3FE5 })).ppu.v = 0x0005 ∧
    (run (.wrPpudata 0x2007 0xE0) (atV 0x1FFF)).mapper.calls = [.writeChr 0x1FFF 0xE0] ∧
    (run (.wrPpudata 0x2007 0xE1) (atV 0x2000)).ppu.vram = [(0x2000, 0xE1)] := by
  decide

/-- R212. -/
theorem test_rdOamdma : (run .rdOamdma State.reset).reply = .byte 0 := by decide

/-- R231: the flag, and the page's only non-zero byte. -/
theorem test_wrOamdma :
    (run (.wrOamdma 0x02) (State.reset.storeRam 0x27F 0x7F)).ppu.oam = [(127, 0x7F)] ∧
    (run (.wrOamdma 0x02) (State.reset.storeRam 0x27F 0x7F)).dmaStall = true := by
  decide +kernel

/-- R213, R214. -/
theorem test_input :
    (run .rdInput { State.reset with input := ⟨[], [0x41]⟩ }).reply = .byte 0x41 ∧
    (run (.wrInput 0x01) State.reset).input.calls = [.write 0x01] := by
  decide

/-- R215, R216. -/
theorem test_unmapped :
    (run (.rdUnmapped 0x4015) State.reset).reply = .byte 0 ∧ run (.wrUnmapped 0x4015 0xFF) State.reset = State.reset := by
  decide

/-- R217, R218. -/
theorem test_prg :
    (run (.rdPrg 0xFFFC) { State.reset with mapper := ⟨[], [0x9A]⟩ }).reply = .byte 0x9A ∧
    (run (.wrPrg 0x8000 0x03) State.reset).mapper.calls = [.writePrg 0x8000 0x03] := by
  decide

/-- R233: one cycle is three dots, and the fresh NMI is latched. -/
theorem test_tick :
    (run (.tick 1) (atDot 241 1 false 0x80)).busPending = some .nmi ∧
    (run (.tick 1) (atDot 241 1 false 0x80)).ppu.dot = 4 := by
  decide

/-- R311. -/
theorem test_reset :
    run .reset (ppuState { Ppu.powerOn with
      writeToggle := true, inVblank := true, scanline := 100, dot := 7, v := 5, oddFrame := true }) =
    ppuState { Ppu.powerOn with v := 5, oddFrame := true } := by
  decide

/-- R310. -/
theorem test_powerOn :
    run .powerOn { atV 5 with ram := [(1, 2)], sink := ⟨[], 9⟩ } = { State.reset with sink := ⟨[], 9⟩ } := by decide

/-- R235, R236. -/
theorem test_intPeekTake :
    (run .intPeek { State.reset with busPending := some .irq }).reply = .kind (some .irq) ∧
    (run .intTake { State.reset with busPending := some .irq }).busPending = none := by
  decide

/-- R237, R238. -/
theorem test_dmaPeekClear :
    (run .dmaPeek { State.reset with dmaStall := true }).reply = .stall true ∧
    (run .dmaClear { State.reset with dmaStall := true }).dmaStall = false := by
  decide

/-- R240: the Bus slot is not touched. -/
theorem test_ppuIntAck :
    run .ppuIntAck { ppuState { Ppu.powerOn with pending := some .nmi } with busPending := some .nmi } =
      { State.reset with busPending := some .nmi } := by
  decide

/-- R239: an IRQ raised over a pending NMI replaces it. -/
theorem test_extRaise :
    (run .extRaiseIrq { State.reset with busPending := some .nmi }).busPending = some .irq ∧
    (run .extRaiseNmi { State.reset with busPending := some .irq }).busPending = some .nmi := by
  decide

/-- R257, R258, with section 2.1's values. -/
theorem test_rendInc : (run .rendIncX (atV 0x001F)).ppu.v = 0x0400 ∧ (run .rendIncY (atV 0x73A0)).ppu.v = 0x0800 := by decide

/-- R259, R260. -/
theorem test_rendFlags :
    (run .rendSetS0hit State.reset).ppu.spriteZeroHit = true ∧ (run .rendSetOvf State.reset).ppu.spriteOverflow = true := by
  decide

/-- R261. -/
theorem test_rendSecoamWr : (run (.rendSecoamWr 31 0x9C) State.reset).ppu.secondaryOam = [(31, 0x9C)] := by decide

/-- R256. -/
theorem test_queries :
    (run .qV (atV 0x7FFF)).reply = .scroll 0x7FFF ∧
    (run .qFinex (ppuState { Ppu.powerOn with fineX := 5 })).reply = .fineX 5 ∧
    (run (.qOam 255) (ppuState (Ppu.powerOn.storeOam 255 0xA2))).reply = .byte 0xA2 ∧
    (run (.qSecoam 3) (ppuState (Ppu.powerOn.storeSecondaryOam 3 0x9C))).reply = .byte 0x9C ∧
    (run (.qReg 4) (ppuState (Ppu.powerOn.setRegister 4 0xBB))).reply = .byte 0xBB := by
  decide

/-- R183 e: the step of (241, 1) with NMI enabled returns (NMI, NMI); the next returns (None, NMI). -/
theorem test_ppuStep_vblank :
    (run .ppuStep (atDot 241 1 false 0x80)).reply = .stepped (some .nmi) (some .nmi) ∧
    (run .ppuStep (ppuState { Ppu.powerOn with scanline := 241, dot := 2, pending := some .nmi })).reply =
      .stepped none (some .nmi) := by
  decide

/-- R177: (261, 339) goes to (0, 0) on an odd frame, to (261, 340) on an even one. -/
theorem test_ppuStep_oddFrame :
    (run .ppuStep (atDot 261 339 true 0)).ppu.scanline = 0 ∧ (run .ppuStep (atDot 261 339 true 0)).ppu.oddFrame = false ∧
    (run .ppuStep (atDot 261 339 false 0)).ppu.dot = 340 := by
  decide

/-- R140: the direct Control write moves only the PPU's slot. -/
theorem test_ppuRegWr :
    (run (.ppuRegWr 0 0x80) (ppuState { Ppu.powerOn with inVblank := true })).reply = .kind (some .nmi) ∧
    (run (.ppuRegWr 0 0x80) (ppuState { Ppu.powerOn with inVblank := true })).busPending = none := by
  decide

/-- Section 2.1. -/
theorem test_incX : incX 0x001F = 0x0400 ∧ incX 0x041F = 0 ∧ incX 0x7FFF = 0x7BE0 := by decide

/-- Section 2.1: coarse Y 29, 30, 31. -/
theorem test_incY : incY 0x7BA0 = 0 ∧ incY 0x73C0 = 0x03E0 ∧ incY 0x7BE0 = 0x0800 ∧ incY 0x7FBF = 0x041F := by decide

/-- Section 2.1. -/
theorem test_setHV : setH 0x1234 0x4321 = 0x1221 ∧ setV 0x1234 0x4321 = 0x4334 := by decide

/-- Section 2.1. -/
theorem test_bump : bump 1 0x7FFF = 0 ∧ bump 32 0x3FFF = 0x001F ∧ bump 32 0x20FF = 0x211F := by decide

/-- R110: the port reads the other register as its source and writes only its target. -/
theorem test_srPort :
    (run (.srSetH .t) (ppuState { Ppu.powerOn with v := 0x7FFF })).ppu = { Ppu.powerOn with v := 0x7FFF, t := 0x041F } ∧
    (run (.srSetV .v) (ppuState { Ppu.powerOn with t := 0x7FFF })).ppu.v = 0x7BE0 ∧
    (run (.srIncX .t) State.reset).ppu.t = 1 ∧ (run (.srIncY .t) State.reset).ppu.t = 0x1000 ∧
    (run (.srRaw .v) (atV 0x1234)).reply = .scroll 0x1234 ∧ (run (.srBump1 .v) (atV 0x00FF)).ppu.v = 0x0100 ∧
    (run (.srBump32 .v) (atV 0x3FE0)).ppu.v = 0 ∧ (run (.srSetRaw .t 0x1234) State.reset).ppu.t = 0x1234 := by
  decide

/-- R266: the cursor wraps after the last pixel. -/
theorem test_fsSetPixel :
    (run (.fsSetPixel 0x123456) { State.reset with sink := ⟨[], 61439⟩ }).sink = ⟨[(61439, 0x123456)], 0⟩ := by decide

/-- R113. -/
theorem test_expandPseudo :
    (expandPseudo (.vpeek 0x2400)).map encode = [0x00200200, 0x10200624, 0x10200600, 0x00200700, 0x00200700] := by decide

/-! ### Witnesses: the hypotheses of the obligations can be met -/

theorem witness_wellFormed : wellFormed (.rdPpudata 0x3FFF) = true ∧ wellFormed (.tick 65535) = true := by decide

theorem witness_decodes : decode 0x206B0300#32 = .ok (.tick 27395) := rfl

theorem witness_unspelledWords :
    refusedWith 0x90000000 (.reservedOp 9) = true ∧ refusedWith 0x40000000 (.raiseKind 0) = true ∧
    refusedWith 0x74000002 (.bumpAmount 2) = true ∧ refusedWith 0x37000000 (.reservedSub 3 7) = true ∧
    refusedWith 0x55000000 (.reservedSub 5 5) = true ∧ refusedWith 0x5D000000 (.reservedSub 5 13) = true ∧
    refusedWith 0x63000000 (.reservedSub 6 3) = true ∧ refusedWith 0x77000000 (.reservedSub 7 7) = true ∧
    refusedWith 0x01000000 (.unusedField 0 1) = true ∧ refusedWith 0x81000000 (.unusedField 8 1) = true ∧
    refusedWith 0x20000001 (.unusedField 2 0) = true ∧ refusedWith 0x36000001 (.unusedField 3 6) = true ∧
    refusedWith 0x41000100 (.unusedField 4 1) = true ∧ refusedWith 0x59000001 (.unusedField 5 9) = true ∧
    refusedWith 0x60000100 (.unusedField 6 0) = true ∧ refusedWith 0x54002000 (.unusedField 5 4) = true ∧
    refusedWith 0x5A010000 (.unusedField 5 10) = true ∧ refusedWith 0x5B002000 (.unusedField 5 11) = true ∧
    refusedWith 0x5C000800 (.unusedField 5 12) = true ∧ refusedWith 0x61000800 (.unusedField 6 1) = true ∧
    refusedWith 0x62000800 (.unusedField 6 2) = true ∧ refusedWith 0x70000100 (.unusedField 7 0) = true ∧
    refusedWith 0x74000101 (.unusedField 7 4) = true ∧ refusedWith 0x76000001 (.unusedField 7 6) = true := by
  decide

theorem witness_step :
    (State.reset.setCommands [0x31000000]).commands = 0x31000000#32 :: [] ∧ decode 0x31000000#32 = .ok .powerOn ∧
    State.reset.commands = [] ∧ decode 0xF0000000#32 = .error (.reservedOp 15) := by
  refine ⟨?_, ?_, ?_, ?_⟩ <;> rfl

theorem witness_stepRefused :
    step (State.reset.setCommands [0xF0000000]) = .refused (.noOperation (.reservedOp 15)) := rfl

theorem witness_execNext : exec .intPeek State.reset = .next (State.reset.setReply (.kind none)) := rfl

theorem witness_ramAddresses : (0x1FFF#16 ≤ 0x1FFF#16) ∧ (0x0A34#16 &&& 0x07FF#16 = 0x1234#16 &&& 0x07FF#16) ∧
    (0x1234#16 ≤ 0x1FFF#16) := by decide

theorem witness_oneWay : (0 : BitVec 3) ≠ 2 ∧ (0 : BitVec 3) ≠ 4 ∧ (0 : BitVec 3) ≠ 7 := by decide

theorem witness_dataRegions :
    Config.paletteBase ≤ (atV 0x3F00).ppu.v.setWidth 14 ∧
    (Config.chrLimit ≤ (atV 0x3EFF).ppu.v.setWidth 14 ∧ (atV 0x3EFF).ppu.v.setWidth 14 < Config.paletteBase) ∧
    Config.chrLimit ≤ (atV 0x2000).ppu.v.setWidth 14 ∧ (atV 0x1FFF).ppu.v.setWidth 14 < Config.chrLimit ∧
    (atV 0x1FFF).mapper.answers = [] := by
  decide

theorem witness_mapperAnswers :
    ({ atV 0x1FFF with mapper := ⟨[], [0xC1]⟩ } : State).mapper.answers = 0xC1#8 :: [] ∧
    ({ State.reset with input := ⟨[], [0x41]⟩ } : State).input.answers = 0x41#8 :: [] := by
  decide

theorem witness_controlEdge :
    let s := ppuState { Ppu.powerOn with inVblank := true }
    ((s.ppu.register 0).getLsbD Config.nmiEnBit = false ∧ (0x80#8).getLsbD Config.nmiEnBit = true ∧
      s.ppu.inVblank = true) ∧
    ¬((s.ppu.register 0).getLsbD Config.nmiEnBit = false ∧ (0x7F#8).getLsbD Config.nmiEnBit = true ∧
      s.ppu.inVblank = true) := by
  decide

theorem witness_toggle :
    (ppuState { Ppu.powerOn with writeToggle := true }).ppu.writeToggle = true ∧ State.reset.ppu.writeToggle = false := by
  decide

theorem witness_toggleMovers :
    (run (.wrPpuscroll 0x2005 0) State.reset).ppu.writeToggle ≠ State.reset.ppu.writeToggle ∧
    (run (.wrOamdma 0x20) (ppuState { Ppu.powerOn with writeToggle := true })).ppu.writeToggle = false := by
  decide +kernel

theorem witness_registerAddresses :
    (0x2000#16 ≤ 0x2008#16 ∧ 0x2008#16 ≤ 0x3FFF#16) ∧ (0x2008#16 ≤ 0x3FFF#16 ∧ 0x3FFF#16 ≤ 0x3FFF#16) := by decide

theorem witness_busRanges :
    (0x1FFF#16 ≤ 0x1FFF#16) ∧ (0x2000#16 ≤ 0x2000#16 ∧ 0x2000#16 ≤ 0x3FFF#16) ∧ (0x4020#16 ≤ 0x4020#16) ∧
    (0x4000#16 ≤ 0x401F#16 ∧ 0x401F#16 ≤ 0x401F#16 ∧ 0x401F#16 ≠ 0x4014#16 ∧ 0x401F#16 ≠ 0x4016#16) ∧
    (0x4000#16 ≤ 0x4014#16 ∧ 0x4014#16 ≤ 0x401F#16 ∧ 0x4014#16 ≠ 0x4016#16) := by
  decide

theorem witness_busSlotMoves : (run .extRaiseIrq State.reset).busPending ≠ State.reset.busPending := by decide

theorem witness_irqStays :
    (run .intPeek { State.reset with busPending := some .irq }).busPending = some .irq ∧
    (run .intPeek (ppuState { Ppu.powerOn with pending := some .irq })).ppu.pending = some .irq := by
  decide

theorem witness_timerMoves : (run .ppuStep State.reset).ppu.dot ≠ State.reset.ppu.dot := by decide

theorem witness_memoriesMove :
    (run (.wrRam 0 1) State.reset).ram ≠ State.reset.ram ∧
    (run (.wrOamdata 0x2004 1) State.reset).ppu.oam ≠ State.reset.ppu.oam ∧
    (run (.rendSecoamWr 0 1) State.reset).ppu.secondaryOam ≠ State.reset.ppu.secondaryOam ∧
    (run (.wrPpudata 0x2007 1) (atV 0x2000)).ppu.vram ≠ (atV 0x2000).ppu.vram ∧
    (run (.fsSetPixel 1) State.reset).sink ≠ State.reset.sink ∧
    (run .powerOn (ppuState (Ppu.powerOn.setRegister 2 1))).ppu.register 2 ≠ (Ppu.powerOn.setRegister 2 1).register 2 ∧
    (run .dmaClear { State.reset with dmaStall := true }).dmaStall ≠ true ∧
    (run (.wrPrg 0x4020 1) State.reset).mapper ≠ State.reset.mapper ∧
    (run (.wrInput 1) State.reset).input ≠ State.reset.input := by
  decide

theorem witness_dmaRamPage :
    (0x1F#8 < 0x20#8) ∧ activeRendering State.reset.ppu = false ∧
    activeRendering (ppuState { Ppu.powerOn with showBackground := true, scanline := 261 }).ppu = true := by
  decide

theorem witness_dmaWhileRendering :
    activeRendering (ppuState { Ppu.powerOn with showBackground := true, scanline := 261 }).ppu = true ∧ (0 : BitVec 3) ≠ 4 ∧
    (0 : Nat) < 256 ∧ (255 : Nat) < 256 := by
  decide

theorem witness_frameStart :
    (atDot 0 0 false 0x80).ppu.scanline = 0 ∧ (atDot 0 0 false 0x80).ppu.dot = 0 ∧
    (atDot 0 0 false 0x80).ppu.oddFrame = false ∧
    ((atDot 0 0 false 0x80).ppu.register 0).getLsbD Config.nmiEnBit = true ∧
    ((atDot 0 0 false 0x7F).ppu.register 0).getLsbD Config.nmiEnBit = false := by
  decide

/-- The cycles where the clauses of the timeline meet lie in its range. -/
theorem witness_vblankBoundaries :
    (27394 ≤ 29668 ∧ 27394 ≤ 27394) ∧ (27395 ≤ 29668 ∧ 27395 ≤ 27395) ∧ 29667 ≤ 29668 ∧ 29668 ≤ 29668 := by
  decide

theorem witness_scrollBelow14Bits : ((atV 0x3FFF).ppu.scroll .v).toNat < 0x4000 := by decide

theorem witness_rowWalk : coarseY ((atV 0x0C1F).ppu.scroll .v) = 0 ∧ fineY ((atV 0x0C1F).ppu.scroll .v) = 0 := by decide

theorem witness_sinkCursor : ({ State.reset with sink := ⟨[], 61439⟩ } : State).sink.cursor < 61440 := by decide

theorem witness_vpoke :
    Config.chrLimit ≤ (0x2000#16).setWidth 14 ∧ Config.chrLimit ≤ (0x3EFE#16).setWidth 14 ∧
    (0x3EFE#16).toNat % 0x4000 + (if (State.reset.ppu.register 0).getLsbD 2 then 32 else 1) < Config.paletteBase.toNat := by
  decide

/-- A state at the last position of an even frame, with a byte in RAM and a pixel, meets the invariant, and a step leaves it. -/
theorem witness_invariant :
    let s : State := { atDot 261 340 false 0x80 with
      ram := [(2047, 1)], sink := ⟨[(61439, 7)], 61439⟩, commands := [0x60000000] }
    s.Inv ∧ step s = exec .ppuStep (s.setCommands []) :=
  ⟨⟨by decide, ⟨by decide, by decide, by decide, by decide, by decide, by decide, by decide, by decide, by decide⟩,
    by decide, by decide⟩, rfl⟩

end Sys2Proof.Tests
end

section
/-! Proofs about RAM (20_memory.md): one rule for each of RD_RAM and WR_RAM, and the mirrors of a RAM address. -/

namespace Sys2Proof.Machine

@[simp] theorem State.ramByte_setReply (s : State) (r : Reply) (i : BitVec 11) :
    (s.setReply r).ramByte i = s.ramByte i := rfl

theorem exec_rdRam (a : Addr) (s : State) :
    exec (.rdRam a) s = .next (s.setReply (.byte (s.ramByte (ramIndex a)))) := rfl

theorem exec_wrRam (a : Addr) (b : Byte) (s : State) :
    exec (.wrRam a b) s = .next ((s.storeRam (ramIndex a) b).setReply .nothing) := rfl

/-- The bits the mask of R62 clears are not bits of the RAM index. -/
@[simp] theorem ramIndex_and_mask (a : Addr) : ramIndex (a &&& 0x07FF#16) = ramIndex a := by
  have mask : (0x07FF#16).extractLsb' 0 11 = BitVec.allOnes 11 := by decide
  simp only [ramIndex, BitVec.extractLsb'_and, mask, BitVec.and_allOnes]

theorem ramIndex_eq_of_mask_eq {a x : Addr} (h : a &&& 0x07FF#16 = x &&& 0x07FF#16) : ramIndex a = ramIndex x := by
  rw [← ramIndex_and_mask a, h, ramIndex_and_mask]

theorem exec_rdRam_mirror (a : Addr) (s : State) : exec (.rdRam (a &&& 0x07FF#16)) s = exec (.rdRam a) s := by
  simp only [exec_rdRam, ramIndex_and_mask]

/-- Settles O11: the index of a RAM access is the address's low 11 bits, so mirrors share it, and a read at the index
just written returns the byte written. -/
theorem ramMirrorsShareOneByte : Obligations.RamMirrorsShareOneByte := by
  intro a x b s _ _
  refine ⟨(exec_rdRam_mirror a s).symm, fun sameLowBits => ⟨_, exec_wrRam a b s, ?_⟩⟩
  have sameIndex : ramIndex x = ramIndex a := (ramIndex_eq_of_mask_eq sameLowBits).symm
  rw [exec_rdRam, sameIndex, State.ramByte_setReply, State.ramByte_storeRam, if_pos rfl]

end Sys2Proof.Machine
end

section
/-! The ScrollRegister direct port (40_scrollregister.md): one rule for each operation, what each ScrollRegister function does
to every field, and what a run of one operation does to its target. -/

namespace Sys2Proof.Machine

/-! ### The state after a write of the target register -/

/-- The state in which an operation of the direct port leaves the block: the target register holds `x`, and nothing is
returned (R120). -/
def State.withScroll (s : State) (r : ScrollTarget) (x : Scroll) : State :=
  (s.setPpu (s.ppu.setScroll r x)).setReply .nothing

@[simp] theorem State.withScroll_scroll (s : State) (r : ScrollTarget) (x : Scroll) :
    (s.withScroll r x).ppu.scroll r = x := Ppu.setScroll_scroll s.ppu r x

@[simp] theorem Ppu.setScroll_setScroll (p : Ppu) (r : ScrollTarget) (x y : Scroll) :
    (p.setScroll r x).setScroll r y = p.setScroll r y := by cases r <;> rfl

@[simp] theorem State.withScroll_withScroll (s : State) (r : ScrollTarget) (x y : Scroll) :
    (s.withScroll r x).withScroll r y = s.withScroll r y := by
  rw [State.withScroll, show (s.withScroll r x).ppu = s.ppu.setScroll r x from rfl, Ppu.setScroll_setScroll]
  rfl

theorem State.withScroll_frame (s : State) (r : ScrollTarget) (x : Scroll) :
    s.withScroll r x =
      { s with ppu := s.ppu.setScroll r ((s.withScroll r x).ppu.scroll r), reply := .nothing } := by
  rw [State.withScroll_scroll]
  rfl

/-! ### One rule for each operation -/

theorem exec_srIncX (r : ScrollTarget) (s : State) :
    exec (.srIncX r) s = .next (s.withScroll r (incX (s.ppu.scroll r))) := rfl

theorem exec_srIncY (r : ScrollTarget) (s : State) :
    exec (.srIncY r) s = .next (s.withScroll r (incY (s.ppu.scroll r))) := rfl

theorem exec_srSetH (r : ScrollTarget) (s : State) :
    exec (.srSetH r) s = .next (s.withScroll r (setH (s.ppu.scroll r) (s.ppu.scroll (otherTarget r)))) := rfl

theorem exec_srSetV (r : ScrollTarget) (s : State) :
    exec (.srSetV r) s = .next (s.withScroll r (setV (s.ppu.scroll r) (s.ppu.scroll (otherTarget r)))) := rfl

theorem exec_srBump1 (r : ScrollTarget) (s : State) :
    exec (.srBump1 r) s = .next (s.withScroll r (bump 1 (s.ppu.scroll r))) := rfl

theorem exec_srBump32 (r : ScrollTarget) (s : State) :
    exec (.srBump32 r) s = .next (s.withScroll r (bump 32 (s.ppu.scroll r))) := rfl

theorem exec_srSetRaw (r : ScrollTarget) (x : Scroll) (s : State) :
    exec (.srSetRaw r x) s = .next (s.withScroll r x) := rfl

theorem exec_srRaw (r : ScrollTarget) (s : State) :
    exec (.srRaw r) s = .next (s.setReply (.scroll (s.ppu.scroll r))) := rfl

/-! ### Runs of operations -/

theorem execAll_cons_next {i : Instr} {s t : State} (h : exec i s = .next t) (is : List Instr) :
    execAll (i :: is) s = execAll is t := by
  simp only [execAll, h]

/-- A repeated operation that applies `f` to its target completes, and leaves the iterate of `f` there. -/
theorem execAll_replicate_scroll {i : Instr} {r : ScrollTarget} {f : Scroll → Scroll}
    (h : ∀ s, exec i s = .next (s.withScroll r (f (s.ppu.scroll r)))) (n : Nat) (s : State) :
    ∃ t, execAll (List.replicate n i) s = .next t ∧ t.ppu.scroll r = f^[n] (s.ppu.scroll r) := by
  induction n generalizing s with
  | zero => exact ⟨s, rfl, rfl⟩
  | succ n ih =>
    obtain ⟨t, run, target⟩ := ih (s.withScroll r (f (s.ppu.scroll r)))
    refine ⟨t, (execAll_cons_next (h s) _).trans run, ?_⟩
    rw [target, State.withScroll_scroll, Function.iterate_succ_apply]

/-! ### The fields of a ScrollRegister -/

theorem coarseX_toNat (x : Scroll) : (coarseX x).toNat = x.toNat % 32 := by
  simp [coarseX, BitVec.extractLsb'_toNat]

theorem coarseY_toNat (x : Scroll) : (coarseY x).toNat = x.toNat / 32 % 32 := by
  simp [coarseY, BitVec.extractLsb'_toNat, Nat.shiftRight_eq_div_pow]

theorem fineY_toNat (x : Scroll) : (fineY x).toNat = x.toNat / 4096 := by
  have bound := x.isLt
  simp only [fineY, BitVec.extractLsb'_toNat, Nat.shiftRight_eq_div_pow]
  omega

theorem extractLsb'_eq_iff {w start len : Nat} {x y : BitVec w} :
    x.extractLsb' start len = y.extractLsb' start len ↔
      ∀ k, start ≤ k → k < start + len → x.getLsbD k = y.getLsbD k := by
  constructor
  · intro h k low high
    have bit := congrArg (BitVec.getLsbD · (k - start)) h
    simpa only [BitVec.getLsbD_extractLsb', Nat.add_sub_cancel' low, show k - start < len by omega, decide_true,
      Bool.true_and] using bit
  · intro h
    refine BitVec.eq_of_getLsbD_eq fun k hk => ?_
    rw [BitVec.getLsbD_extractLsb', BitVec.getLsbD_extractLsb', h (start + k) (by omega) (by omega)]

theorem coarseX_eq_iff {x y : Scroll} : coarseX x = coarseX y ↔ ∀ k < 5, x.getLsbD k = y.getLsbD k := by
  simp [coarseX, extractLsb'_eq_iff]

theorem coarseY_eq_iff {x y : Scroll} :
    coarseY x = coarseY y ↔ ∀ k, 5 ≤ k → k < 10 → x.getLsbD k = y.getLsbD k := extractLsb'_eq_iff

theorem fineY_eq_iff {x y : Scroll} :
    fineY x = fineY y ↔ ∀ k, 12 ≤ k → k < 15 → x.getLsbD k = y.getLsbD k := extractLsb'_eq_iff

/-- A ScrollRegister is determined by its three counters and the two nametable bits (R100). -/
theorem scroll_ext {x y : Scroll} (hx : coarseX x = coarseX y) (hy : coarseY x = coarseY y) (hf : fineY x = fineY y)
    (hn : ∀ k, 10 ≤ k → k < 12 → x.getLsbD k = y.getLsbD k) : x = y := by
  refine BitVec.eq_of_getLsbD_eq fun k hk => ?_
  obtain h | ⟨h, h'⟩ | ⟨h, h'⟩ | h : k < 5 ∨ (5 ≤ k ∧ k < 10) ∨ (10 ≤ k ∧ k < 12) ∨ 12 ≤ k := by omega
  · exact coarseX_eq_iff.mp hx k h
  · exact coarseY_eq_iff.mp hy k h h'
  · exact hn k h h'
  · exact fineY_eq_iff.mp hf k h hk

@[simp] theorem coarseX_setCoarseX (x : Scroll) (c : BitVec 5) : coarseX (setCoarseX x c) = c := by
  refine BitVec.eq_of_getLsbD_eq fun k hk => ?_
  rw [coarseX, BitVec.getLsbD_extractLsb', setCoarseX_bit]
  simp [hk]

@[simp] theorem coarseY_setCoarseY (x : Scroll) (c : BitVec 5) : coarseY (setCoarseY x c) = c := by
  refine BitVec.eq_of_getLsbD_eq fun k hk => ?_
  rw [coarseY, BitVec.getLsbD_extractLsb', setCoarseY_bit, if_pos (by omega)]
  simp [hk]

@[simp] theorem fineY_setFineY (x : Scroll) (f : BitVec 3) : fineY (setFineY x f) = f := by
  refine BitVec.eq_of_getLsbD_eq fun k hk => ?_
  rw [fineY, BitVec.getLsbD_extractLsb', setFineY_bit, if_pos (by omega)]
  simp [hk]

@[simp] theorem coarseY_setFineY (x : Scroll) (f : BitVec 3) : coarseY (setFineY x f) = coarseY x :=
  coarseY_eq_iff.mpr fun k _ _ => by rw [setFineY_bit, if_neg (by omega)]

@[simp] theorem fineY_setCoarseY (x : Scroll) (c : BitVec 5) : fineY (setCoarseY x c) = fineY x :=
  fineY_eq_iff.mpr fun k _ _ => by rw [setCoarseY_bit, if_neg (by omega)]

/-! ### Flipping a nametable bit -/

theorem getLsbD_xor_hNtMask (x : Scroll) (k : Nat) :
    (x ^^^ hNtMask).getLsbD k = (x.getLsbD k ^^ decide (k = Config.hNtBit)) := by
  rw [BitVec.getLsbD_xor, hNtMask_bit]

theorem getLsbD_xor_vNtMask (x : Scroll) (k : Nat) :
    (x ^^^ vNtMask).getLsbD k = (x.getLsbD k ^^ decide (k = Config.vNtBit)) := by
  rw [BitVec.getLsbD_xor, vNtMask_bit]

theorem getLsbD_xor_hNtMask_of_ne (x : Scroll) {k : Nat} (h : k ≠ Config.hNtBit) :
    (x ^^^ hNtMask).getLsbD k = x.getLsbD k := by
  rw [getLsbD_xor_hNtMask, decide_eq_false h, Bool.xor_false]

theorem getLsbD_xor_vNtMask_of_ne (x : Scroll) {k : Nat} (h : k ≠ Config.vNtBit) :
    (x ^^^ vNtMask).getLsbD k = x.getLsbD k := by
  rw [getLsbD_xor_vNtMask, decide_eq_false h, Bool.xor_false]

@[simp] theorem coarseX_xor_hNtMask (x : Scroll) : coarseX (x ^^^ hNtMask) = coarseX x :=
  coarseX_eq_iff.mpr fun k _ => getLsbD_xor_hNtMask_of_ne x (by unfold Config.hNtBit; omega)

@[simp] theorem coarseX_xor_vNtMask (x : Scroll) : coarseX (x ^^^ vNtMask) = coarseX x :=
  coarseX_eq_iff.mpr fun k _ => getLsbD_xor_vNtMask_of_ne x (by unfold Config.vNtBit; omega)

@[simp] theorem coarseY_xor_vNtMask (x : Scroll) : coarseY (x ^^^ vNtMask) = coarseY x :=
  coarseY_eq_iff.mpr fun k _ _ => getLsbD_xor_vNtMask_of_ne x (by unfold Config.vNtBit; omega)

@[simp] theorem fineY_xor_vNtMask (x : Scroll) : fineY (x ^^^ vNtMask) = fineY x :=
  fineY_eq_iff.mpr fun k _ _ => getLsbD_xor_vNtMask_of_ne x (by unfold Config.vNtBit; omega)

/-! ### SR_INC_X, field by field (R121) -/

@[simp] theorem coarseX_incX (x : Scroll) : coarseX (incX x) = coarseX x + 1 := by
  unfold incX
  split
  · next wraps => rw [coarseX_xor_hNtMask, coarseX_setCoarseX, wraps]; rfl
  · rw [coarseX_setCoarseX]

theorem incX_bit (x : Scroll) {k : Nat} (h : 5 ≤ k) :
    (incX x).getLsbD k = (x.getLsbD k ^^ (decide (coarseX x = 31) && decide (k = Config.hNtBit))) := by
  have above : ¬ k < 5 := by omega
  by_cases wraps : coarseX x = 31
  · rw [incX, if_pos wraps, getLsbD_xor_hNtMask, setCoarseX_bit, if_neg above, decide_eq_true wraps, Bool.true_and]
  · rw [incX, if_neg wraps, setCoarseX_bit, if_neg above, decide_eq_false wraps, Bool.false_and, Bool.xor_false]

theorem incX_bit_of_ne (x : Scroll) {k : Nat} (h : 5 ≤ k) (hk : k ≠ Config.hNtBit) :
    (incX x).getLsbD k = x.getLsbD k := by
  rw [incX_bit x h, decide_eq_false hk, Bool.and_false, Bool.xor_false]

@[simp] theorem coarseY_incX (x : Scroll) : coarseY (incX x) = coarseY x :=
  coarseY_eq_iff.mpr fun k low _ => incX_bit_of_ne x low (by unfold Config.hNtBit; omega)

@[simp] theorem fineY_incX (x : Scroll) : fineY (incX x) = fineY x :=
  fineY_eq_iff.mpr fun k low _ => incX_bit_of_ne x (by omega) (by unfold Config.hNtBit; omega)

/-! ### SR_INC_Y, field by field (R122) -/

/-- The three things SR_INC_Y can do; coarse Y 31 is among the values incremented, since 31 + 1 is 0 in five bits. -/
theorem incY_cases (x : Scroll) :
    (fineY x ≠ 7 ∧ incY x = setFineY x (fineY x + 1)) ∨
    (fineY x = 7 ∧ coarseY x = 29 ∧ incY x = setCoarseY (setFineY x 0) 0 ^^^ vNtMask) ∨
    (fineY x = 7 ∧ coarseY x ≠ 29 ∧ incY x = setCoarseY (setFineY x 0) (coarseY x + 1)) := by
  unfold incY
  by_cases hf : fineY x = 7
  · rw [if_neg (by bv_omega)]
    by_cases h29 : coarseY x = 29
    · exact .inr (.inl ⟨hf, h29, if_pos h29⟩)
    · refine .inr (.inr ⟨hf, h29, ?_⟩)
      simp only [if_neg h29]
      split
      · next h31 => rw [h31]; rfl
      · rfl
  · exact .inl ⟨hf, if_pos (by bv_omega)⟩

@[simp] theorem fineY_incY (x : Scroll) : fineY (incY x) = fineY x + 1 := by
  obtain ⟨-, eq⟩ | ⟨hf, -, eq⟩ | ⟨hf, -, eq⟩ := incY_cases x <;> rw [eq]
  · exact fineY_setFineY ..
  · rw [fineY_xor_vNtMask, fineY_setCoarseY, fineY_setFineY, hf]; rfl
  · rw [fineY_setCoarseY, fineY_setFineY, hf]; rfl

theorem coarseY_incY (x : Scroll) :
    coarseY (incY x) = if fineY x = 7 then if coarseY x = 29 then 0 else coarseY x + 1 else coarseY x := by
  obtain ⟨hf, eq⟩ | ⟨hf, h29, eq⟩ | ⟨hf, h29, eq⟩ := incY_cases x <;> rw [eq]
  · rw [if_neg hf, coarseY_setFineY]
  · rw [if_pos hf, if_pos h29, coarseY_xor_vNtMask, coarseY_setCoarseY]
  · rw [if_pos hf, if_neg h29, coarseY_setCoarseY]

/-- The same in the numbers of R122, where 31 is a case of its own. -/
theorem coarseY_incY_toNat (x : Scroll) :
    (coarseY (incY x)).toNat =
      if (fineY x).toNat < 7 then (coarseY x).toNat
      else if (coarseY x).toNat = 29 ∨ (coarseY x).toNat = 31 then 0
      else (coarseY x).toNat + 1 := by
  rw [coarseY_incY]
  by_cases hf : fineY x = 7
  · by_cases hc : coarseY x = 29
    · simp [hf, hc]
    · rw [if_pos hf, if_neg hc]
      split
      · bv_omega
      · split <;> bv_omega
  · rw [if_neg hf, if_pos (by bv_omega)]

theorem incY_bit (x : Scroll) {k : Nat} (h : k < 5 ∨ 10 ≤ k ∧ k < 12) :
    (incY x).getLsbD k =
      (x.getLsbD k ^^ (decide (fineY x = 7 ∧ coarseY x = 29) && decide (k = Config.vNtBit))) := by
  have notCoarseY : ¬ (5 ≤ k ∧ k < 10) := by omega
  have notFineY : ¬ (12 ≤ k ∧ k < 15) := by omega
  obtain ⟨hf, eq⟩ | ⟨hf, h29, eq⟩ | ⟨hf, h29, eq⟩ := incY_cases x <;> rw [eq]
  · rw [setFineY_bit, if_neg notFineY, decide_eq_false fun both => hf both.1, Bool.false_and, Bool.xor_false]
  · rw [getLsbD_xor_vNtMask, setCoarseY_bit, if_neg notCoarseY, setFineY_bit, if_neg notFineY,
      decide_eq_true (And.intro hf h29), Bool.true_and]
  · rw [setCoarseY_bit, if_neg notCoarseY, setFineY_bit, if_neg notFineY, decide_eq_false fun both => h29 both.2,
      Bool.false_and, Bool.xor_false]

theorem incY_bit_of_ne (x : Scroll) {k : Nat} (h : k < 5 ∨ 10 ≤ k ∧ k < 12) (hk : k ≠ Config.vNtBit) :
    (incY x).getLsbD k = x.getLsbD k := by
  rw [incY_bit x h, decide_eq_false hk, Bool.and_false, Bool.xor_false]

@[simp] theorem coarseX_incY (x : Scroll) : coarseX (incY x) = coarseX x :=
  coarseX_eq_iff.mpr fun k hk => incY_bit_of_ne x (.inl hk) (by unfold Config.vNtBit; omega)

/-- Each of the two increments neither reads nor writes what the other one does (R128, part a). -/
theorem incX_incY_comm (x : Scroll) : incX (incY x) = incY (incX x) := by
  refine scroll_ext ?_ ?_ ?_ fun k low high => ?_
  · rw [coarseX_incX, coarseX_incY, coarseX_incY, coarseX_incX]
  · rw [coarseY_incX, coarseY_incY, coarseY_incY, fineY_incX, coarseY_incX]
  · rw [fineY_incX, fineY_incY, fineY_incY, fineY_incX]
  · rw [incX_bit _ (by omega), incY_bit x (.inr ⟨low, high⟩), coarseX_incY, incY_bit _ (.inr ⟨low, high⟩),
      incX_bit x (by omega), fineY_incX, coarseY_incX, Bool.xor_right_comm]

/-! ### The walk of SR_INC_Y down the 240 rows (R128, part c) -/

/-- The row of pixels a ScrollRegister points at: coarse Y, in rows of eight, and fine Y. -/
def scrollRow (x : Scroll) : Nat := 8 * (coarseY x).toNat + (fineY x).toNat

theorem scrollRow_eq_iff (x : Scroll) (c f : Nat) (hf : f < 8) :
    scrollRow x = 8 * c + f ↔ (coarseY x).toNat = c ∧ (fineY x).toNat = f := by
  have bound := (fineY x).isLt
  unfold scrollRow
  omega

theorem scrollRow_incY (x : Scroll) (h : scrollRow x < 239) : scrollRow (incY x) = scrollRow x + 1 := by
  unfold scrollRow at h ⊢
  rw [fineY_incY, coarseY_incY]
  by_cases hf : fineY x = 7
  · have h29 : coarseY x ≠ 29 := by rintro eq; simp [hf, eq] at h
    rw [if_pos hf, if_neg h29, hf]
    bv_omega
  · rw [if_neg hf]
    bv_omega

/-- Before the last row is done, the walk moves the row alone. -/
theorem incY_bit_of_scrollRow_lt (x : Scroll) (h : scrollRow x < 239) {k : Nat} (hk : k < 5 ∨ 10 ≤ k ∧ k < 12) :
    (incY x).getLsbD k = x.getLsbD k := by
  have notLast : ¬ (fineY x = 7 ∧ coarseY x = 29) := by
    rintro ⟨hf, hc⟩
    simp [scrollRow, hf, hc] at h
  rw [incY_bit x hk, decide_eq_false notLast, Bool.false_and, Bool.xor_false]

theorem incY_iterate (x : Scroll) (h : scrollRow x = 0) (n : Nat) (hn : n ≤ 239) :
    scrollRow (incY^[n] x) = n ∧ ∀ k, (k < 5 ∨ 10 ≤ k ∧ k < 12) → (incY^[n] x).getLsbD k = x.getLsbD k := by
  induction n with
  | zero => exact ⟨h, fun _ _ => rfl⟩
  | succ n ih =>
    obtain ⟨row, kept⟩ := ih (by omega)
    have above : scrollRow (incY^[n] x) < 239 := by omega
    rw [Function.iterate_succ_apply']
    exact ⟨by rw [scrollRow_incY _ above, row], fun k hk => by rw [incY_bit_of_scrollRow_lt _ above hk, kept k hk]⟩

theorem incY_iterate_240 (x : Scroll) (hc : coarseY x = 0) (hf : fineY x = 0) : incY^[240] x = x ^^^ vNtMask := by
  obtain ⟨row, kept⟩ := incY_iterate x (by simp [scrollRow, hc, hf]) 239 le_rfl
  rw [Function.iterate_succ_apply']
  generalize incY^[239] x = last at row kept ⊢
  obtain ⟨lastC, lastF⟩ := (scrollRow_eq_iff last 29 7 (by omega)).mp row
  replace lastC : coarseY last = 29 := BitVec.eq_of_toNat_eq lastC
  replace lastF : fineY last = 7 := BitVec.eq_of_toNat_eq lastF
  refine scroll_ext ?_ ?_ ?_ fun k low high => ?_
  · rw [coarseX_incY, coarseX_xor_vNtMask]
    exact coarseX_eq_iff.mpr fun k hk => kept k (.inl hk)
  · rw [coarseY_incY, if_pos lastF, if_pos lastC, coarseY_xor_vNtMask, hc]
  · rw [fineY_incY, lastF, fineY_xor_vNtMask, hf]
    rfl
  · rw [incY_bit last (.inr ⟨low, high⟩), decide_eq_true ⟨lastF, lastC⟩, Bool.true_and, kept k (.inr ⟨low, high⟩),
      getLsbD_xor_vNtMask]

/-! ### The two copies, bit by bit (R123, R124) -/

theorem setH_bit (x y : Scroll) (k : Nat) :
    (setH x y).getLsbD k = if k ≤ 4 ∨ k = Config.hNtBit then y.getLsbD k else x.getLsbD k := by
  rw [setH, getLsbD_withBits, BitVec.getLsbD_or, coarseXMask_bit, hNtMask_bit]
  simp only [Bool.or_eq_true, decide_eq_true_eq, Nat.lt_succ_iff]

theorem setV_bit (x y : Scroll) {k : Nat} (hk : k < 15) :
    (setV x y).getLsbD k =
      if 12 ≤ k ∨ k = Config.vNtBit ∨ (5 ≤ k ∧ k ≤ 9) then y.getLsbD k else x.getLsbD k := by
  rw [setV, getLsbD_withBits, BitVec.getLsbD_or, BitVec.getLsbD_or, fineYMask_bit, vNtMask_bit, coarseYMask_bit]
  simp only [Bool.or_eq_true, Bool.and_eq_true, decide_eq_true_eq, Nat.lt_succ_iff, hk, and_true, or_assoc]

/-! ### SR_BUMP (R125) -/

/-- The byte-wise wording of R125, "add to the low byte with carry into the high byte", is the sum modulo 0x4000. -/
theorem bytewise_sum_eq (n a : Nat) :
    ((n / 256 + (n % 256 + a) / 256) * 256 ||| (n % 256 + a) % 256) &&& 0x3FFF = (n + a) % 0x4000 := by
  have low : (n % 256 + a) % 256 < 2 ^ 8 := Nat.mod_lt _ (by omega)
  have join : (n / 256 + (n % 256 + a) / 256) * 256 ||| (n % 256 + a) % 256 = n + a := by
    rw [Nat.mul_comm, ← Nat.two_pow_add_eq_or_of_lt low]
    omega
  rw [join]
  exact Nat.and_two_pow_sub_one_eq_mod (n + a) 14

theorem bump_toNat_bytewise (a x : Scroll) :
    (bump a x).toNat =
      ((x.toNat / 256 + (x.toNat % 256 + a.toNat) / 256) * 256 ||| (x.toNat % 256 + a.toNat) % 256) &&& 0x3FFF := by
  rw [bump_toNat, bytewise_sum_eq]

theorem bump_iterate_toNat (a x : Scroll) (h : x.toNat < 0x4000) (n : Nat) :
    ((bump a)^[n] x).toNat = (x.toNat + n * a.toNat) % 0x4000 := by
  induction n with
  | zero => simp [Nat.mod_eq_of_lt h]
  | succ n ih =>
    rw [Function.iterate_succ_apply', bump_toNat, ih, Nat.mod_add_mod, Nat.add_assoc, Nat.succ_mul]

/-- Bumps that add up to the size of the PPU address space give the value back (R128, part d). -/
theorem bump_iterate_eq_self {a x : Scroll} {n : Nat} (h : x.toNat < 0x4000) (period : n * a.toNat = 0x4000) :
    (bump a)^[n] x = x := by
  refine BitVec.eq_of_toNat_eq ?_
  rw [bump_iterate_toNat a x h, period, Nat.add_mod_right, Nat.mod_eq_of_lt h]

/-! ### The obligations -/

/-- Settles O50, from what SR_INC_X does to coarse X and to each bit above it. -/
theorem coarseXIncrementWrapsAndFlips : Obligations.CoarseXIncrementWrapsAndFlips := by
  intro r s
  refine ⟨_, exec_srIncX r s, ?_⟩
  rw [← State.withScroll_frame, State.withScroll_scroll]
  generalize s.ppu.scroll r = x
  have wraps : coarseX x = 31 ↔ x.toNat % 32 = 31 := by
    rw [← BitVec.toNat_inj, coarseX_toNat]
    rfl
  refine ⟨?_, ?_, fun k low _ hk => incX_bit_of_ne x low hk, rfl⟩
  · rw [← coarseX_toNat, coarseX_incX, BitVec.toNat_add, coarseX_toNat]
    rfl
  · rw [incX_bit x (by decide)]
    simp only [wraps, decide_true, Bool.and_true]

/-- Settles O51, from what SR_INC_Y does to fine Y, to coarse Y and to the bits outside them. -/
theorem yIncrementWrapsAtRow29 : Obligations.YIncrementWrapsAtRow29 := by
  intro r s
  refine ⟨_, exec_srIncY r s, ?_⟩
  rw [← State.withScroll_frame, State.withScroll_scroll]
  generalize s.ppu.scroll r = x
  have fine7 : fineY x = 7 ↔ x.toNat / 4096 = 7 := by
    rw [← BitVec.toNat_inj, fineY_toNat]
    rfl
  have coarse29 : coarseY x = 29 ↔ x.toNat / 32 % 32 = 29 := by
    rw [← BitVec.toNat_inj, coarseY_toNat]
    rfl
  refine ⟨?_, ?_, ?_, fun k hk => ?_, rfl⟩
  · rw [← fineY_toNat, fineY_incY, BitVec.toNat_add, fineY_toNat]
    rfl
  · rw [← coarseY_toNat, coarseY_incY_toNat, fineY_toNat, coarseY_toNat]
  · rw [incY_bit x (by decide)]
    simp only [fine7, coarse29, decide_true, Bool.and_true]
  · exact incY_bit_of_ne x (by omega) (by unfold Config.vNtBit at *; omega)

/-- Settles O52, bit by bit from the masks of the two copies. -/
theorem scrollCopiesTakeTheirFields : Obligations.ScrollCopiesTakeTheirFields := by
  intro r s
  refine ⟨⟨_, exec_srSetH r s, ?_, State.withScroll_frame ..⟩, ⟨_, exec_srSetV r s, ?_, State.withScroll_frame ..⟩⟩
  · intro k _
    rw [State.withScroll_scroll, setH_bit]
  · intro k hk
    rw [State.withScroll_scroll, setV_bit _ _ hk]

/-- Settles O53: SR_BUMP is addition modulo 0x4000, and so is the byte-wise sum. -/
theorem bumpAddsModulo16384 : Obligations.BumpAddsModulo16384 := by
  intro r s
  refine ⟨⟨_, exec_srBump1 r s, ?_, ?_, State.withScroll_frame ..⟩,
    ⟨_, exec_srBump32 r s, ?_, ?_, State.withScroll_frame ..⟩⟩ <;> rw [State.withScroll_scroll]
  · exact bump_toNat 1 _
  · exact bump_toNat_bytewise 1 _
  · exact bump_toNat 32 _
  · exact bump_toNat_bytewise 32 _

/-- Settles O54: the value stored is the value read back. -/
theorem setRawStoresTheValue : Obligations.SetRawStoresTheValue := by
  intro r x s
  refine ⟨_, exec_srSetRaw r x s, rfl, State.withScroll_scroll s r x, ?_⟩
  rw [exec_srRaw, State.withScroll_scroll]

/-- Settles O55: the two increments act on separate fields, and each run of bumps adds 0x4000 in all. -/
theorem scrollIncrementsCommuteAndBumpIsCyclic : Obligations.ScrollIncrementsCommuteAndBumpIsCyclic := by
  intro r s
  refine ⟨⟨s.withScroll r (incY (incX (s.ppu.scroll r))), ?_, ?_⟩, fun below => ⟨?_, ?_⟩⟩
  · rw [execAll_cons_next (exec_srIncX r s), execAll_cons_next (exec_srIncY r _), State.withScroll_scroll,
      State.withScroll_withScroll]
    rfl
  · rw [execAll_cons_next (exec_srIncY r s), execAll_cons_next (exec_srIncX r _), State.withScroll_scroll,
      State.withScroll_withScroll, incX_incY_comm]
    rfl
  · obtain ⟨t, run, target⟩ := execAll_replicate_scroll (exec_srBump1 r) 16384 s
    exact ⟨t, run, target.trans (bump_iterate_eq_self below rfl)⟩
  · obtain ⟨t, run, target⟩ := execAll_replicate_scroll (exec_srBump32 r) 512 s
    exact ⟨t, run, target.trans (bump_iterate_eq_self below rfl)⟩

/-- Settles O56: 239 increments walk to the last row, and the next one wraps it. -/
theorem rowWalkOf240Increments : Obligations.RowWalkOf240Increments := by
  intro r s coarse fine
  obtain ⟨t, run, target⟩ := execAll_replicate_scroll (exec_srIncY r) 240 s
  exact ⟨t, run, target.trans (incY_iterate_240 _ coarse fine)⟩

end Sys2Proof.Machine
end

section
/-! The PPU register interface (41_ppu_registers.md): one rule for each register write, what each write does to the image, to
`t` bit by bit and to the other fields, and everything that moves the write toggle. -/

namespace Sys2Proof.Machine

/-! ### One rule for each operation -/

/-- The state in which a bus write to a PPU register leaves the block when nothing outside the PPU changes. -/
def State.withPpu (s : State) (p : Ppu) : State := (s.setPpu p).setReply .nothing

@[simp] theorem State.withPpu_ppu (s : State) (p : Ppu) : (s.withPpu p).ppu = p := rfl

theorem exec_rdOamdata (a : Addr) (s : State) :
    exec (.rdOamdata a) s = .next (s.setReply (.byte (s.ppu.oamByte s.ppu.oamAddr))) := rfl

theorem exec_wrPpumask (a : Addr) (b : Byte) (s : State) :
    exec (.wrPpumask a b) s = .next (s.withPpu (writeMask b s.ppu)) := rfl

theorem exec_wrOamaddr (a : Addr) (b : Byte) (s : State) :
    exec (.wrOamaddr a b) s = .next (s.withPpu (writeOamAddr b s.ppu)) := rfl

theorem exec_wrOamdata (a : Addr) (b : Byte) (s : State) :
    exec (.wrOamdata a b) s = .next (s.withPpu (writeOamData b s.ppu)) := rfl

theorem exec_wrPpuscroll (a : Addr) (b : Byte) (s : State) :
    exec (.wrPpuscroll a b) s = .next (s.withPpu (writeScroll b s.ppu)) := rfl

theorem exec_wrPpuaddr (a : Addr) (b : Byte) (s : State) :
    exec (.wrPpuaddr a b) s = .next (s.withPpu (writeAddress b s.ppu)) := rfl

theorem exec_ppuRegWr (i : BitVec 3) (b : Byte) (s : State) :
    exec (.ppuRegWr i b) s = .next ((ppuWrite i b s).2.setReply (.kind (ppuWrite i b s).1)) := rfl

/-! ### The image (R141) -/

/-- A write whose image is that of the common first step sets that one element. -/
theorem Ppu.register_of_registers_eq {p q : Ppu} {j : BitVec 3} {b : Byte}
    (h : q.registers = (p.setRegister j b).registers) (i : BitVec 3) :
    q.register i = if i = j then b else p.register i := by
  rw [← Ppu.register_setRegister]
  simp only [Ppu.register, h]

/-! ### Control (R142) -/

theorem controlRaises_of_edge {old new : Byte} {inVblank : Bool}
    (h : nmiEnabled old = false ∧ nmiEnabled new = true ∧ inVblank = true) :
    controlRaises old new inVblank = some .nmi := by
  obtain ⟨low, high, blank⟩ := h
  simp [controlRaises, low, high, blank]

theorem controlRaises_of_not_edge {old new : Byte} {inVblank : Bool}
    (h : ¬(nmiEnabled old = false ∧ nmiEnabled new = true ∧ inVblank = true)) :
    controlRaises old new inVblank = none :=
  if_neg (by simpa [and_assoc] using h)

theorem writeControl_t_bit (b : Byte) (p : Ppu) (k : Nat) :
    (writeControl b p).t.getLsbD k =
      if k = 10 then b.getLsbD 0 else if k = 11 then b.getLsbD 1 else p.t.getLsbD k := by
  rw [writeControl, setNametable_bit]
  split
  · next inside =>
    obtain rfl | rfl : k = 10 ∨ k = 11 := by omega
    · simp
    · simp
  · next outside => rw [if_neg (by omega), if_neg (by omega)]

/-! ### OAM data (R148) -/

theorem activeRendering_iff (p : Ppu) :
    activeRendering p = true ↔
      (p.scanline ≤ 239 ∨ p.scanline = 261) ∧ (p.showBackground = true ∨ p.showSprites = true) := by
  simp only [activeRendering, isRenderLine, renderingEnabled, Bool.and_eq_true, Bool.or_eq_true, decide_eq_true_eq,
    beq_iff_eq]
  rfl

theorem writeOamData_oam_read (b : Byte) (p : Ppu) (i : Nat) :
    (writeOamData b p).oam.read Config.initOam i =
      if i = p.oamAddr.toNat ∧ ¬activeRendering p = true then b else p.oam.read Config.initOam i := by
  rw [writeOamData_eq]
  by_cases active : activeRendering p = true
  · simp [active]
  · simp [active, Memory.read_write]

/-! ### The two-step writes (R149, R150) -/

theorem writeScroll_first (b : Byte) {p : Ppu} (h : p.writeToggle = false) :
    writeScroll b p =
      { p.setRegister 5 b with t := scrollFold1 p.t b, fineX := scrollFineX b, writeToggle := true } := by
  simp [writeScroll, h]

theorem writeScroll_second (b : Byte) {p : Ppu} (h : p.writeToggle = true) :
    writeScroll b p = { p.setRegister 5 b with t := scrollFold2 p.t b, writeToggle := false } := by
  simp [writeScroll, h]

theorem writeAddress_first (b : Byte) {p : Ppu} (h : p.writeToggle = false) :
    writeAddress b p = { p.setRegister 6 b with t := addressFold1 p.t b, writeToggle := true } := by
  simp [writeAddress, h]

theorem writeAddress_second (b : Byte) {p : Ppu} (h : p.writeToggle = true) :
    writeAddress b p =
      { p.setRegister 6 b with t := addressFold2 p.t b, v := addressFold2 p.t b, writeToggle := false } := by
  simp [writeAddress, h]

theorem writeScroll_frame (b : Byte) (p : Ppu) :
    writeScroll b p = { p with
      registers := (writeScroll b p).registers, t := (writeScroll b p).t
      fineX := (writeScroll b p).fineX, writeToggle := !p.writeToggle } := by
  cases mode : p.writeToggle
  · rw [writeScroll_first b mode]; rfl
  · rw [writeScroll_second b mode]; rfl

theorem writeAddress_frame (b : Byte) (p : Ppu) :
    writeAddress b p = { p with
      registers := (writeAddress b p).registers, v := (writeAddress b p).v, t := (writeAddress b p).t
      writeToggle := !p.writeToggle } := by
  cases mode : p.writeToggle
  · rw [writeAddress_first b mode]; rfl
  · rw [writeAddress_second b mode]; rfl

@[simp] theorem writeScroll_registers (b : Byte) (p : Ppu) :
    (writeScroll b p).registers = (p.setRegister 5 b).registers := by
  cases mode : p.writeToggle
  · rw [writeScroll_first b mode]
  · rw [writeScroll_second b mode]

@[simp] theorem writeAddress_registers (b : Byte) (p : Ppu) :
    (writeAddress b p).registers = (p.setRegister 6 b).registers := by
  cases mode : p.writeToggle
  · rw [writeAddress_first b mode]
  · rw [writeAddress_second b mode]

@[simp] theorem writeScroll_writeToggle (b : Byte) (p : Ppu) : (writeScroll b p).writeToggle = !p.writeToggle := by
  rw [writeScroll_frame]

@[simp] theorem writeAddress_writeToggle (b : Byte) (p : Ppu) : (writeAddress b p).writeToggle = !p.writeToggle := by
  rw [writeAddress_frame]

/-! ### The folds, bit by bit (R101, R102) -/

theorem scrollFineX_bit (b : Byte) {k : Nat} (hk : k < 3) : (scrollFineX b).getLsbD k = b.getLsbD k := by
  simp [scrollFineX, hk]

theorem scrollFold1_bit (x : Scroll) (b : Byte) (k : Nat) :
    (scrollFold1 x b).getLsbD k = if k < 5 then b.getLsbD (k + 3) else x.getLsbD k := by
  rw [scrollFold1, setCoarseX_bit]
  split
  · next low => simp [low, Nat.add_comm]
  · rfl

theorem scrollFold2_bit (x : Scroll) (b : Byte) {k : Nat} (hk : k < 15) :
    (scrollFold2 x b).getLsbD k =
      if 12 ≤ k then b.getLsbD (k - 12) else if 5 ≤ k ∧ k ≤ 9 then b.getLsbD (k - 2) else x.getLsbD k := by
  rw [scrollFold2, setCoarseY_bit, setFineY_bit]
  obtain fine | coarse | other : 12 ≤ k ∨ (5 ≤ k ∧ k ≤ 9) ∨ (k < 12 ∧ ¬(5 ≤ k ∧ k ≤ 9)) := by omega
  · rw [if_neg (by omega), if_pos ⟨fine, hk⟩, if_pos fine]
    simp [show k - 12 < 3 by omega]
  · rw [if_pos (by omega), if_neg (by omega), if_pos coarse]
    simp [show k - 5 < 5 by omega, show 3 + (k - 5) = k - 2 by omega]
  · rw [if_neg (by omega), if_neg (by omega), if_neg (by omega), if_neg other.2]

theorem addressHighMask_bit (k : Nat) : (0x7F00#15).getLsbD k = (decide (8 ≤ k) && decide (k < 15)) :=
  scroll_bits_of_fin 0x7F00#15 (fun k => decide (8 ≤ k) && decide (k < 15)) (by decide) (fun k h => by simp; omega) k

theorem addressLowMask_bit (k : Nat) : (0x00FF#15).getLsbD k = decide (k < 8) :=
  scroll_bits_of_fin 0x00FF#15 (fun k => decide (k < 8)) (by decide) (fun k h => by simp; omega) k

theorem addressFold1_bit (x : Scroll) (b : Byte) {k : Nat} (hk : k < 15) :
    (addressFold1 x b).getLsbD k =
      if k < 8 then x.getLsbD k else if k = 14 then false else b.getLsbD (k - 8) := by
  rw [addressFold1, getLsbD_withBits, addressHighMask_bit]
  by_cases low : k < 8
  · simp [low]
  · by_cases top : k = 14
    · simp [top]
    · simp [low, top, hk, show 8 ≤ k by omega, show k - 8 < 6 by omega]

theorem addressFold2_bit (x : Scroll) (b : Byte) (k : Nat) :
    (addressFold2 x b).getLsbD k = if k < 8 then b.getLsbD k else x.getLsbD k := by
  rw [addressFold2, getLsbD_withBits, addressLowMask_bit]
  by_cases low : k < 8
  · simp [low, show k < 15 by omega]
  · simp [low]

/-! ### What moves the write toggle (R154) -/

@[simp] theorem writeOamData_writeToggle (b : Byte) (p : Ppu) : (writeOamData b p).writeToggle = p.writeToggle := by
  rw [writeOamData_eq]; rfl

@[simp] theorem readData_writeToggle (s : State) : (readData s).2.ppu.writeToggle = s.ppu.writeToggle := by
  unfold readData
  simp only
  split
  · rfl
  · split <;> rfl

@[simp] theorem writeData_writeToggle (b : Byte) (s : State) : (writeData b s).ppu.writeToggle = s.ppu.writeToggle := by
  unfold writeData
  simp only
  split <;> rfl

/-- Of the PPU register reads, the Status read alone moves the toggle. -/
theorem ppuRead_writeToggle_of_ne {i : BitVec 3} (h : i ≠ 2) (s : State) :
    (ppuRead i s).2.ppu.writeToggle = s.ppu.writeToggle := by
  unfold ppuRead
  split
  · next status => exact absurd (BitVec.eq_of_toNat_eq status) h
  · rfl
  · exact readData_writeToggle s
  · rfl

/-- Of the PPU register writes, the two-step writes alone move the toggle. -/
theorem ppuWrite_writeToggle_of_ne {i : BitVec 3} (h5 : i ≠ 5) (h6 : i ≠ 6) (b : Byte) (s : State) :
    (ppuWrite i b s).2.ppu.writeToggle = s.ppu.writeToggle := by
  unfold ppuWrite
  split
  · rfl
  · rfl
  · rfl
  · rfl
  · exact writeOamData_writeToggle b s.ppu
  · next scroll => exact absurd (BitVec.eq_of_toNat_eq scroll) h5
  · next address => exact absurd (BitVec.eq_of_toNat_eq address) h6
  · exact writeData_writeToggle b s

@[simp] theorem stepPpu_writeToggle (p : Ppu) : (stepPpu p).writeToggle = p.writeToggle := by rw [stepPpu_frame]

@[simp] theorem busSteps_writeToggle (n : Nat) (s : State) :
    (busSteps n s).ppu.writeToggle = s.ppu.writeToggle := by rw [busSteps_frame]

/-- A bus read of an address that does not select the Status register keeps the toggle. -/
theorem busRead_writeToggle_of_ne {a : Addr} (h : selectTarget a ≠ .reg 2) (s : State) :
    (busRead a s).2.ppu.writeToggle = s.ppu.writeToggle := by
  unfold busRead
  split
  case h_2 i select => exact ppuRead_writeToggle_of_ne (fun status => h (status ▸ select)) s
  all_goals rfl

theorem dmaSource_toNat (p i : Byte) : (dmaSource p i).toNat = p.toNat * 256 + i.toNat := by
  rw [dmaSource, BitVec.toNat_append, ← Nat.shiftLeft_add_eq_or_of_lt i.isLt, Nat.shiftLeft_eq]

/-- Only from pages $20 to $3F does an OAM DMA read PPU registers (R242, part d). -/
theorem page_of_dmaSource_reg {p i : Byte} {j : BitVec 3} (h : selectTarget (dmaSource p i) = .reg j) :
    0x20#8 ≤ p ∧ p ≤ 0x3F#8 := by
  obtain ⟨low, high, -⟩ := (addrIsReg_iff j _).mp ((selectTarget_reg j _).mp h)
  rw [BitVec.le_def, dmaSource_toNat] at low high
  have bound := i.isLt
  simp only [BitVec.le_def, BitVec.toNat_ofNat] at low high ⊢
  omega

theorem dmaPairs_writeToggle {p : Byte} (h : ¬(0x20#8 ≤ p ∧ p ≤ 0x3F#8)) (n : Nat) (s : State) :
    (dmaPairs p n s).ppu.writeToggle = s.ppu.writeToggle := by
  induction n with
  | zero => rfl
  | succ n ih =>
    rw [dmaPairs, dmaPair, ppuWrite_writeToggle_of_ne (by decide) (by decide),
      busRead_writeToggle_of_ne (fun status => h (page_of_dmaSource_reg status)), ih]

/-- A write to one of the two-step registers, through the Bus or the direct port. -/
def IsTwoStepWrite (i : Instr) : Prop :=
  ∃ a b, i = .wrPpuscroll a b ∨ i = .wrPpuaddr a b ∨ i = .ppuRegWr 5 b ∨ i = .ppuRegWr 6 b

/-- An operation that clears the toggle whatever it was. -/
def ClearsToggle (i : Instr) : Prop :=
  (∃ a, i = .rdPpustatus a) ∨ i = .ppuRegRd 2 ∨ i = .reset ∨ i = .powerOn

theorem exec_twoStepWrite {i : Instr} (h : IsTwoStepWrite i) (s : State) :
    ∃ t, exec i s = .next t ∧ t.ppu.writeToggle = !s.ppu.writeToggle := by
  obtain ⟨a, b, rfl | rfl | rfl | rfl⟩ := h
  · exact ⟨_, exec_wrPpuscroll a b s, writeScroll_writeToggle b s.ppu⟩
  · exact ⟨_, exec_wrPpuaddr a b s, writeAddress_writeToggle b s.ppu⟩
  · exact ⟨_, exec_ppuRegWr 5 b s, writeScroll_writeToggle b s.ppu⟩
  · exact ⟨_, exec_ppuRegWr 6 b s, writeAddress_writeToggle b s.ppu⟩

theorem exec_clearsToggle {i : Instr} (h : ClearsToggle i) (s : State) :
    ∃ t, exec i s = .next t ∧ t.ppu.writeToggle = false := by
  obtain ⟨a, rfl⟩ | rfl | rfl | rfl := h <;> exact ⟨_, rfl, rfl⟩

theorem execAll_twoStepWrites (ops : List Instr) (s : State) (h : ∀ i ∈ ops, IsTwoStepWrite i) :
    ∃ t, execAll ops s = .next t ∧
      t.ppu.writeToggle = (s.ppu.writeToggle ^^ decide (ops.length % 2 = 1)) := by
  induction ops generalizing s with
  | nil => exact ⟨s, rfl, by simp⟩
  | cons i rest ih =>
    obtain ⟨first, write⟩ := List.forall_mem_cons.mp h
    obtain ⟨u, run, flipped⟩ := exec_twoStepWrite first s
    obtain ⟨t, runRest, toggle⟩ := ih u write
    refine ⟨t, (execAll_cons_next run rest).trans runRest, ?_⟩
    have parity : decide ((i :: rest).length % 2 = 1) = !decide (rest.length % 2 = 1) := by
      rw [List.length_cons, ← decide_not, decide_eq_decide]
      omega
    rw [toggle, flipped, parity, Bool.not_xor, Bool.xor_not]

/-- Whatever moves the toggle is a two-step write, an operation that clears it, or an OAM DMA that reads PPU registers. -/
theorem exec_writeToggle_moves {i : Instr} {s t : State} (run : exec i s = .next t)
    (moved : t.ppu.writeToggle ≠ s.ppu.writeToggle) :
    IsTwoStepWrite i ∨ ClearsToggle i ∨ ∃ p : Byte, i = .wrOamdma p ∧ 0x20#8 ≤ p ∧ p ≤ 0x3F#8 := by
  cases i with
  | wrPpuscroll a b => exact .inl ⟨a, b, .inl rfl⟩
  | wrPpuaddr a b => exact .inl ⟨a, b, .inr (.inl rfl)⟩
  | ppuRegWr j b =>
    by_cases h5 : j = 5
    · exact .inl ⟨0, b, by simp [h5]⟩
    · by_cases h6 : j = 6
      · exact .inl ⟨0, b, by simp [h6]⟩
      · cases run
        exact absurd (ppuWrite_writeToggle_of_ne h5 h6 b s) moved
  | rdPpustatus a => exact .inr (.inl (.inl ⟨a, rfl⟩))
  | ppuRegRd j =>
    by_cases h2 : j = 2
    · exact .inr (.inl (.inr (.inl (by rw [h2]))))
    · cases run
      exact absurd (ppuRead_writeToggle_of_ne h2 s) moved
  | reset => exact .inr (.inl (.inr (.inr (.inl rfl))))
  | powerOn => exact .inr (.inl (.inr (.inr (.inr rfl))))
  | wrOamdma p =>
    by_cases page : 0x20#8 ≤ p ∧ p ≤ 0x3F#8
    · exact .inr (.inr ⟨p, rfl, page⟩)
    · cases run
      exact absurd (dmaPairs_writeToggle page _ s) moved
  | rdPpudata => cases run; exact absurd (readData_writeToggle s) moved
  | wrPpudata _ b => cases run; exact absurd (writeData_writeToggle b s) moved
  | wrOamdata _ b => cases run; exact absurd (writeOamData_writeToggle b s.ppu) moved
  | tick n => cases run; exact absurd (busSteps_writeToggle _ s) moved
  | ppuStep => cases run; exact absurd (stepPpu_writeToggle s.ppu) moved
  | srIncX r | srIncY r | srSetH r | srSetV r | srBump1 r | srBump32 r | srSetRaw r _ =>
    cases run
    exact absurd (Ppu.setScroll_writeToggle s.ppu r _) moved
  | _ => cases run; exact absurd rfl moved

/-- A first $2005 write followed by a $2006 write: fine X from the one byte, the low byte of `t` and the copy to `v` from the
other (R154). -/
theorem execAll_scroll_then_address (a x : Addr) (b c : Byte) (s : State) (h : s.ppu.writeToggle = false) :
    ∃ t, execAll [.wrPpuscroll a b, .wrPpuaddr x c] s = .next t ∧
      t.ppu.v = addressFold2 (scrollFold1 s.ppu.t b) c ∧ t.ppu.t = addressFold2 (scrollFold1 s.ppu.t b) c ∧
      t.ppu.fineX = scrollFineX b ∧ t.ppu.writeToggle = false := by
  have run : execAll [.wrPpuscroll a b, .wrPpuaddr x c] s =
      .next (s.withPpu (writeAddress c (writeScroll b s.ppu))) := rfl
  refine ⟨_, run, ?_⟩
  rw [State.withPpu_ppu, writeScroll_first b h, writeAddress_second c rfl]
  exact ⟨rfl, rfl, rfl, rfl⟩

/-! ### The obligations -/

/-- Settles O24: each two-step write flips the toggle, and the operations are gone through one by one for what else moves
it. -/
theorem sharedToggleFollowsTheTwoStepWrites : Obligations.SharedToggleFollowsTheTwoStepWrites := by
  refine ⟨execAll_twoStepWrites, fun _ s clears => exec_clearsToggle clears s, fun i s t run moved => ?_, ?_⟩
  · simpa only [IsTwoStepWrite, ClearsToggle, or_assoc] using exec_writeToggle_moves run moved
  · intro a x b c s firstMode
    obtain ⟨t, run, hv, ht, fine, toggle⟩ := execAll_scroll_then_address a x b c s firstMode
    refine ⟨t, run, hv.trans ht.symm, toggle, fun k hk => ?_, fun k _ => ?_⟩
    · rw [fine, scrollFineX_bit b hk]
    · rw [ht, addressFold2_bit, scrollFold1_bit]
      split
      · rfl
      · next high => rw [if_neg (by omega)]

/-- Settles O17: the raise is NMI exactly on the enable edge, and the write itself touches the image and two bits of `t`. -/
theorem directControlWriteRaisesOnTheEnableEdge : Obligations.DirectControlWriteRaisesOnTheEnableEdge := by
  intro b s
  have raised : (ppuWrite 0 b s).1 = controlRaises s.ppu.ctrl b s.ppu.inVblank := rfl
  have pending : (ppuWrite 0 b s).2.ppu.pending = (ppuWrite 0 b s).1.or s.ppu.pending := rfl
  refine ⟨_, exec_ppuRegWr 0 b s, Ppu.register_of_registers_eq rfl, writeControl_t_bit b s.ppu, fun edge => ?_,
    fun noEdge => ?_, rfl⟩
  · rw [State.setReply_ppu, State.setReply_reply, pending, raised.trans (controlRaises_of_edge edge)]
    exact ⟨rfl, rfl⟩
  · rw [State.setReply_ppu, State.setReply_reply, pending, raised.trans (controlRaises_of_not_edge noEdge)]
    exact ⟨rfl, rfl⟩

/-- Settles O19, from the rule of the Mask write: the flags are the two bits it copies. -/
theorem maskWriteSetsTheShowFlags : Obligations.MaskWriteSetsTheShowFlags := by
  intro a b s
  exact ⟨_, exec_wrPpumask a b s, Ppu.register_of_registers_eq rfl, rfl, rfl, rfl⟩

/-- Settles O20, from the rule of the OAM address write, which no gate guards. -/
theorem oamAddressWriteSetsTheCursor : Obligations.OamAddressWriteSetsTheCursor := by
  intro a b s
  exact ⟨_, exec_wrOamaddr a b s, Ppu.register_of_registers_eq rfl, rfl⟩

/-- Settles O21: the write changes one byte of OAM unless rendering is active, and the cursor always. -/
theorem oamDataWriteIsGatedByRendering : Obligations.OamDataWriteIsGatedByRendering := by
  intro a b s
  refine ⟨_, exec_wrOamdata a b s, fun i => ?_, ?_, Ppu.register_of_registers_eq ?_, ?_⟩
  · rw [State.withPpu_ppu, writeOamData_oam_read]
    simp only [activeRendering_iff]
  · rw [State.withPpu_ppu, writeOamData_eq]
    exact BitVec.toNat_add ..
  · rw [State.withPpu_ppu, writeOamData_eq]
  · rw [writeOamData_eq]
    rfl

/-- Settles O22, by the two modes of the toggle. -/
theorem scrollWriteIsTwoStep : Obligations.ScrollWriteIsTwoStep := by
  intro a b s
  refine ⟨_, exec_wrPpuscroll a b s, fun first => ?_, fun second => ?_,
    Ppu.register_of_registers_eq (writeScroll_registers b s.ppu), congrArg s.withPpu (writeScroll_frame b s.ppu)⟩
  · rw [State.withPpu_ppu, writeScroll_first b first]
    exact ⟨fun k _ => scrollFold1_bit s.ppu.t b k, fun k hk => scrollFineX_bit b hk⟩
  · rw [State.withPpu_ppu, writeScroll_second b second]
    exact ⟨fun k hk => scrollFold2_bit s.ppu.t b hk, rfl⟩

/-- Settles O23, by the two modes of the toggle; the second write gives `v` and `t` one value. -/
theorem addressWriteIsTwoStep : Obligations.AddressWriteIsTwoStep := by
  intro a b s
  refine ⟨_, exec_wrPpuaddr a b s, fun first => ?_, fun second => ?_,
    Ppu.register_of_registers_eq (writeAddress_registers b s.ppu), congrArg s.withPpu (writeAddress_frame b s.ppu)⟩
  · rw [State.withPpu_ppu, writeAddress_first b first]
    exact ⟨fun k hk => addressFold1_bit s.ppu.t b hk, rfl⟩
  · rw [State.withPpu_ppu, writeAddress_second b second]
    exact ⟨fun k _ => addressFold2_bit s.ppu.t b k, rfl⟩

/-- Settles O14: the rule of the OAM data read writes the reply alone. -/
theorem oamDataReadKeepsTheCursor : Obligations.OamDataReadKeepsTheCursor := exec_rdOamdata

end Sys2Proof.Machine
end

section
/-! The scanline/dot timer (42_ppu_timing.md): what one dot does to each field it can move, the position as a count of dots
from the start of the frame, and what a run of dots inside one frame has done by its end. -/

namespace Sys2Proof.Machine

/-! ### The events of one dot (R171 to R175) -/

theorem exec_ppuStep (s : State) :
    exec .ppuStep s =
      .next ((s.setPpu (stepPpu s.ppu)).setReply (.stepped (positionRaises s.ppu) (stepPpu s.ppu).pending)) := rfl

theorem preRenderEvent_eq (p : Ppu) :
    preRenderEvent p = { p with
      inVblank := if p.scanline = 261 ∧ p.dot = 1 then false else p.inVblank
      spriteZeroHit := if p.scanline = 261 ∧ p.dot = 1 then false else p.spriteZeroHit
      spriteOverflow := if p.scanline = 261 ∧ p.dot = 1 then false else p.spriteOverflow } := by
  by_cases here : p.scanline = 261 ∧ p.dot = 1
  · simp only [if_pos here]
    exact if_pos here
  · simp only [if_neg here]
    exact if_neg here

theorem vblankEvent_eq (p : Ppu) :
    vblankEvent p = { p with
      inVblank := if p.scanline = 241 ∧ p.dot = 1 then true else p.inVblank
      pending := (positionRaises p).or p.pending } := by
  by_cases here : p.scanline = 241 ∧ p.dot = 1
  · rw [if_pos here]
    exact if_pos here
  · have raisesNothing : positionRaises p = none := if_neg fun ⟨line, dot, _⟩ => here ⟨line, dot⟩
    rw [if_neg here, raisesNothing]
    exact if_neg here

/-- The two copies stand at different dots, so at most one of them is made. -/
theorem verticalEvent_horizontalEvent (p : Ppu) :
    verticalEvent (horizontalEvent p) = { p with
      v := if activeRendering p = true ∧ p.dot = 257 then setH p.v p.t
        else if renderingEnabled p = true ∧ p.scanline = 261 ∧ 280 ≤ p.dot ∧ p.dot ≤ 304 then setV p.v p.t
        else p.v } := by
  have horizontal : renderingEnabled p = true ∧ isRenderLine p.scanline = true ∧ p.dot = 257 ↔
      activeRendering p = true ∧ p.dot = 257 := by
    rw [activeRendering, Bool.and_eq_true]
    tauto
  by_cases copiesH : activeRendering p = true ∧ p.dot = 257
  · obtain ⟨-, dot⟩ := id copiesH
    rw [if_pos copiesH, horizontalEvent, if_pos (horizontal.mpr copiesH), verticalEvent]
    exact if_neg fun ⟨_, _, low, _⟩ => absurd low (show ¬280 ≤ p.dot by omega)
  · rw [if_neg copiesH, horizontalEvent, if_neg (mt horizontal.mp copiesH), verticalEvent]
    by_cases copiesV : renderingEnabled p = true ∧ p.scanline = 261 ∧ 280 ≤ p.dot ∧ p.dot ≤ 304
    · rw [if_pos copiesV]
      exact if_pos copiesV
    · rw [if_neg copiesV]
      exact if_neg copiesV

theorem positionEvents_eq (p : Ppu) :
    positionEvents p = { p with
      v := if activeRendering p = true ∧ p.dot = 257 then setH p.v p.t
        else if renderingEnabled p = true ∧ p.scanline = 261 ∧ 280 ≤ p.dot ∧ p.dot ≤ 304 then setV p.v p.t
        else p.v
      inVblank := if p.scanline = 241 ∧ p.dot = 1 then true
        else if p.scanline = 261 ∧ p.dot = 1 then false else p.inVblank
      spriteZeroHit := if p.scanline = 261 ∧ p.dot = 1 then false else p.spriteZeroHit
      spriteOverflow := if p.scanline = 261 ∧ p.dot = 1 then false else p.spriteOverflow
      pending := (positionRaises p).or p.pending } := by
  rw [positionEvents, verticalEvent_horizontalEvent, vblankEvent_eq, preRenderEvent_eq]
  rfl

theorem advance_frame (p : Ppu) :
    advance p = { p with
      scanline := (advance p).scanline, dot := (advance p).dot, oddFrame := (advance p).oddFrame } := by
  unfold advance
  repeat' split
  all_goals rfl

theorem stepPpu_inVblank (p : Ppu) :
    (stepPpu p).inVblank = if p.scanline = 241 ∧ p.dot = 1 then true
      else if p.scanline = 261 ∧ p.dot = 1 then false else p.inVblank := by
  rw [stepPpu, advance_frame, positionEvents_eq]

theorem stepPpu_spriteZeroHit (p : Ppu) :
    (stepPpu p).spriteZeroHit = if p.scanline = 261 ∧ p.dot = 1 then false else p.spriteZeroHit := by
  rw [stepPpu, advance_frame, positionEvents_eq]

theorem stepPpu_spriteOverflow (p : Ppu) :
    (stepPpu p).spriteOverflow = if p.scanline = 261 ∧ p.dot = 1 then false else p.spriteOverflow := by
  rw [stepPpu, advance_frame, positionEvents_eq]

theorem stepPpu_pending (p : Ppu) : (stepPpu p).pending = (positionRaises p).or p.pending := by
  rw [stepPpu, advance_frame, positionEvents_eq]

theorem stepPpu_v (p : Ppu) :
    (stepPpu p).v = if activeRendering p = true ∧ p.dot = 257 then setH p.v p.t
      else if renderingEnabled p = true ∧ p.scanline = 261 ∧ 280 ≤ p.dot ∧ p.dot ≤ 304 then setV p.v p.t
      else p.v := by
  rw [stepPpu, advance_frame, positionEvents_eq]

theorem renderingEnabled_iff (p : Ppu) :
    renderingEnabled p = true ↔ p.showBackground = true ∨ p.showSprites = true := by
  rw [renderingEnabled, Bool.or_eq_true]

/-- The bits of `v` after a dot: those a copy made at this position takes from `t`, and its own (R174, R175). -/
theorem stepPpu_v_bit (p : Ppu) {k : Nat} (hk : k < 15) :
    (stepPpu p).v.getLsbD k =
      if (p.showBackground = true ∨ p.showSprites = true) ∧
          (((p.scanline ≤ 239 ∨ p.scanline = 261) ∧ p.dot = 257 ∧ (k ≤ 4 ∨ k = 10)) ∨
            (p.scanline = 261 ∧ 280 ≤ p.dot ∧ p.dot ≤ 304 ∧ (12 ≤ k ∨ k = 11 ∨ (5 ≤ k ∧ k ≤ 9))))
      then p.t.getLsbD k else p.v.getLsbD k := by
  rw [stepPpu_v]
  simp only [activeRendering_iff, renderingEnabled_iff]
  split
  · next copiesH =>
    obtain ⟨⟨line, shown⟩, dot⟩ := copiesH
    rw [setH_bit]
    exact if_congr (by simp [line, shown, dot, Config.hNtBit]) rfl rfl
  · next noHorizontal =>
    split
    · next copiesV =>
      obtain ⟨shown, line, low, high⟩ := copiesV
      have notDot257 : p.dot ≠ 257 := by omega
      rw [setV_bit _ _ hk]
      exact if_congr (by simp [line, shown, low, high, notDot257, Config.vNtBit]) rfl rfl
    · next noVertical =>
      refine (if_neg ?_).symm
      rintro ⟨shown, ⟨line, dot, _⟩ | ⟨line, low, high, _⟩⟩
      · exact noHorizontal ⟨⟨line, shown⟩, dot⟩
      · exact noVertical ⟨shown, line, low, high⟩

/-- Settles O36, field by field from what one dot does. -/
theorem positionEventsOfOneDot : Obligations.PositionEventsOfOneDot := by
  intro s
  refine ⟨_, positionRaises s.ppu, exec_ppuStep s, rfl, rfl, ?_, stepPpu_inVblank _, stepPpu_spriteZeroHit _,
    stepPpu_spriteOverflow _, fun k hk => stepPpu_v_bit _ hk, rfl, stepPpu_writeToggle _⟩
  refine (stepPpu_pending s.ppu).trans ?_
  unfold positionRaises
  split <;> rfl

/-! ### The position as a count of dots from the start of the frame -/

/-- The three fields an advance can move. -/
def Ppu.position (p : Ppu) : Nat × Nat × Bool := (p.scanline, p.dot, p.oddFrame)

theorem Ppu.position_eq_iff {p : Ppu} {line dot : Nat} {odd : Bool} :
    p.position = (line, dot, odd) ↔ p.scanline = line ∧ p.dot = dot ∧ p.oddFrame = odd := by
  rw [Ppu.position, Prod.mk.injEq, Prod.mk.injEq]

theorem advance_position (p : Ppu) :
    (advance p).position =
      if p.scanline = 261 ∧ p.dot = 339 ∧ p.oddFrame = true then (0, 0, !p.oddFrame)
      else if p.dot = 340 then
        if p.scanline = 261 then (0, 0, !p.oddFrame) else (p.scanline + 1, 0, p.oddFrame)
      else (p.scanline, p.dot + 1, p.oddFrame) := by
  simp only [advance, apply_ite Ppu.position]
  rfl

/-- R177 as one equation: the events of the position found do not move it. -/
theorem stepPpu_position (p : Ppu) :
    (stepPpu p).position =
      if p.scanline = 261 ∧ p.dot = 339 ∧ p.oddFrame = true then (0, 0, !p.oddFrame)
      else if p.dot = 340 then
        if p.scanline = 261 then (0, 0, !p.oddFrame) else (p.scanline + 1, 0, p.oddFrame)
      else (p.scanline, p.dot + 1, p.oddFrame) := by
  obtain ⟨line, dot, odd⟩ := positionEvents_position p
  rw [stepPpu, advance_position, line, dot, odd]

/-- The timer stands `q` dots after the start of a frame. -/
def Ppu.AtFrameDot (p : Ppu) (q : Nat) : Prop := p.scanline = q / 341 ∧ p.dot = q % 341

theorem Ppu.atFrameDot_zero {p : Ppu} : p.AtFrameDot 0 ↔ p.scanline = 0 ∧ p.dot = 0 := Iff.rfl

/-- Dot 82182 of a frame is the one that enters vertical blank (R173). -/
theorem Ppu.AtFrameDot.vblank_iff {p : Ppu} {q : Nat} (h : p.AtFrameDot q) :
    p.scanline = 241 ∧ p.dot = 1 ↔ q = 82182 := by
  obtain ⟨line, dot⟩ := h
  omega

/-- Dot 89002 of a frame is the one that clears the status flags (R172). -/
theorem Ppu.AtFrameDot.preRender_iff {p : Ppu} {q : Nat} (h : p.AtFrameDot q) :
    p.scanline = 261 ∧ p.dot = 1 ↔ q = 89002 := by
  obtain ⟨line, dot⟩ := h
  omega

/-- The length of a frame: an odd frame is one dot shorter (R180). -/
def frameDots (oddFrame : Bool) : Nat := if oddFrame then 89341 else 89342

theorem le_frameDots (oddFrame : Bool) : 89341 ≤ frameDots oddFrame := by cases oddFrame <;> decide

theorem frameDots_le (oddFrame : Bool) : frameDots oddFrame ≤ 89342 := by cases oddFrame <;> decide

theorem stepPpu_inside_frame {p : Ppu} {q : Nat} (h : p.AtFrameDot q) (inside : q + 1 < frameDots p.oddFrame) :
    (stepPpu p).AtFrameDot (q + 1) ∧ (stepPpu p).oddFrame = p.oddFrame := by
  obtain ⟨line, dot⟩ := h
  have bound := frameDots_le p.oddFrame
  have noSkip : ¬(p.scanline = 261 ∧ p.dot = 339 ∧ p.oddFrame = true) := by
    rintro ⟨hline, hdot, odd⟩
    rw [odd, frameDots, if_pos rfl] at inside
    omega
  have position := stepPpu_position p
  rw [if_neg noSkip] at position
  by_cases lineEnd : p.dot = 340
  · rw [if_pos lineEnd, if_neg (by omega)] at position
    obtain ⟨line', dot', parity⟩ := Ppu.position_eq_iff.mp position
    exact ⟨⟨by omega, by omega⟩, parity⟩
  · rw [if_neg lineEnd] at position
    obtain ⟨line', dot', parity⟩ := Ppu.position_eq_iff.mp position
    exact ⟨⟨by omega, by omega⟩, parity⟩

/-- An odd frame ends by the skip at (261, 339), an even one at (261, 340) (R177). -/
theorem stepPpu_end_of_frame {p : Ppu} {q : Nat} (h : p.AtFrameDot q) (last : q + 1 = frameDots p.oddFrame) :
    (stepPpu p).AtFrameDot 0 ∧ (stepPpu p).oddFrame = !p.oddFrame := by
  obtain ⟨line, dot⟩ := h
  have wraps : (stepPpu p).position = (0, 0, !p.oddFrame) := by
    rw [stepPpu_position]
    by_cases odd : p.oddFrame = true
    · rw [odd, frameDots, if_pos rfl] at last
      exact if_pos ⟨by omega, by omega, odd⟩
    · rw [frameDots, if_neg odd] at last
      rw [if_neg fun ⟨_, _, isOdd⟩ => odd isOdd, if_pos (by omega), if_pos (by omega)]
  obtain ⟨line', dot', flipped⟩ := Ppu.position_eq_iff.mp wraps
  exact ⟨⟨line', dot'⟩, flipped⟩

theorem stepPpu_iterate_inside_frame {p : Ppu} (h : p.AtFrameDot 0) (m : Nat) (inside : m < frameDots p.oddFrame) :
    (stepPpu^[m] p).AtFrameDot m ∧ (stepPpu^[m] p).oddFrame = p.oddFrame := by
  induction m with
  | zero => exact ⟨h, rfl⟩
  | succ m ih =>
    obtain ⟨position, parity⟩ := ih (by omega)
    rw [Function.iterate_succ_apply']
    obtain ⟨position', parity'⟩ := stepPpu_inside_frame position (by rw [parity]; exact inside)
    exact ⟨position', parity'.trans parity⟩

theorem stepPpu_iterate_frame {p : Ppu} (h : p.AtFrameDot 0) :
    (stepPpu^[frameDots p.oddFrame] p).AtFrameDot 0 ∧ (stepPpu^[frameDots p.oddFrame] p).oddFrame = !p.oddFrame := by
  obtain ⟨m, length⟩ : ∃ m, frameDots p.oddFrame = m + 1 :=
    Nat.exists_eq_add_one.mpr ((le_frameDots p.oddFrame).trans' (by omega))
  obtain ⟨position, parity⟩ := stepPpu_iterate_inside_frame h m (by omega)
  rw [length, Function.iterate_succ_apply']
  obtain ⟨start, flipped⟩ := stepPpu_end_of_frame position (by rw [parity, length])
  exact ⟨start, by rw [flipped, parity]⟩

/-! ### The dots of a TICK (R233) -/

theorem exec_tick (n : Nat) (s : State) : exec (.tick n) s = .next ((busSteps (3 * n) s).setReply .nothing) := rfl

theorem busSteps_ppu (m : Nat) (s : State) : (busSteps m s).ppu = stepPpu^[m] s.ppu := by
  induction m with
  | zero => rfl
  | succ m ih => rw [Function.iterate_succ_apply', ← ih]; rfl

/-- Settles O38: a frame flips the parity, so an even frame and the odd one after it give it back. -/
theorem twoFramesTake178683Dots : Obligations.TwoFramesTake178683Dots := by
  intro s line dot even
  refine ⟨_, exec_tick 59561 s, ?_⟩
  obtain ⟨middle, odd⟩ := stepPpu_iterate_frame (Ppu.atFrameDot_zero.mpr ⟨line, dot⟩)
  rw [even] at middle odd
  obtain ⟨start, evenAgain⟩ := stepPpu_iterate_frame middle
  rw [odd, ← Function.iterate_add_apply] at start evenAgain
  have twoFrames : frameDots (!false) + frameDots false = 3 * 59561 := rfl
  rw [twoFrames, ← busSteps_ppu] at start evenAgain
  exact ⟨start.1, start.2, evenAgain⟩

/-! ### The events of one frame -/

theorem busSteps_atFrameDot {s : State} (h : s.ppu.AtFrameDot 0) {m : Nat} (hm : m < 89341) :
    (busSteps m s).ppu.AtFrameDot m := by
  rw [busSteps_ppu]
  exact (stepPpu_iterate_inside_frame h m (hm.trans_le (le_frameDots _))).1

theorem busSteps_ctrl (m : Nat) (s : State) : (busSteps m s).ppu.ctrl = s.ppu.ctrl := by
  rw [busSteps_frame]
  rfl

theorem busStep_ppu (s : State) : (busStep s).ppu = stepPpu s.ppu := rfl

theorem busSteps_inVblank {s : State} (h : s.ppu.AtFrameDot 0) (m : Nat) (hm : m < 89341) :
    (busSteps m s).ppu.inVblank = if m ≤ 82182 then s.ppu.inVblank else decide (m ≤ 89002) := by
  induction m with
  | zero => rfl
  | succ m ih =>
    have position := busSteps_atFrameDot h (show m < 89341 by omega)
    rw [busSteps, busStep_ppu, stepPpu_inVblank, ih (by omega)]
    simp only [position.vblank_iff, position.preRender_iff]
    obtain before | rfl | after := lt_trichotomy m 82182
    · rw [if_neg (by omega), if_neg (by omega), if_pos (by omega), if_pos (by omega)]
    · rfl
    · rw [if_neg (by omega), if_neg (show ¬m ≤ 82182 by omega), if_neg (show ¬m + 1 ≤ 82182 by omega)]
      split
      · next clears => rw [clears]; rfl
      · exact decide_eq_decide.mpr (by omega)

theorem busSteps_spriteFlags {s : State} (h : s.ppu.AtFrameDot 0) (m : Nat) (hm : m < 89341) :
    (busSteps m s).ppu.spriteZeroHit = (if m ≤ 89002 then s.ppu.spriteZeroHit else false) ∧
      (busSteps m s).ppu.spriteOverflow = (if m ≤ 89002 then s.ppu.spriteOverflow else false) := by
  induction m with
  | zero => exact ⟨rfl, rfl⟩
  | succ m ih =>
    have position := busSteps_atFrameDot h (show m < 89341 by omega)
    obtain ⟨zeroHit, overflow⟩ := ih (by omega)
    rw [busSteps, busStep_ppu, stepPpu_spriteZeroHit, stepPpu_spriteOverflow, zeroHit, overflow]
    simp only [position.preRender_iff]
    grind

/-- What the first `m` dots of a frame have raised, the control byte being `ctrl` throughout. -/
def raisedBefore (ctrl : Byte) (m : Nat) : Slot := if 82182 < m ∧ nmiEnabled ctrl = true then some .nmi else none

theorem raisedBefore_succ {p : Ppu} {m : Nat} (h : p.AtFrameDot m) (slot : Slot) :
    (positionRaises p).or ((raisedBefore p.ctrl m).or slot) = (raisedBefore p.ctrl (m + 1)).or slot := by
  have raises : positionRaises p = if m = 82182 ∧ nmiEnabled p.ctrl = true then some .nmi else none :=
    if_congr (and_assoc.symm.trans (and_congr_left' h.vblank_iff)) rfl rfl
  rw [raises]
  unfold raisedBefore
  grind

theorem busSteps_slots {s : State} (h : s.ppu.AtFrameDot 0) (m : Nat) (hm : m < 89341) :
    (busSteps m s).ppu.pending = (raisedBefore s.ppu.ctrl m).or s.ppu.pending ∧
      (busSteps m s).busPending = (raisedBefore s.ppu.ctrl m).or s.busPending := by
  induction m with
  | zero => exact ⟨rfl, rfl⟩
  | succ m ih =>
    have position := busSteps_atFrameDot h (show m < 89341 by omega)
    obtain ⟨pending, busPending⟩ := ih (by omega)
    constructor
    · rw [busSteps, busStep_ppu, stepPpu_pending, pending, ← busSteps_ctrl m s, raisedBefore_succ position]
    · show (positionRaises _).or (busSteps m s).busPending = _
      rw [busPending, ← busSteps_ctrl m s, raisedBefore_succ position]

/-- Settles O39: TICK n runs the first 3n dots of the frame, fewer than a frame has. -/
theorem verticalBlankTimeline : Obligations.VerticalBlankTimeline := by
  intro s n line dot bound
  have start := Ppu.atFrameDot_zero.mpr ⟨line, dot⟩
  have inside : 3 * n < 89341 := by omega
  obtain ⟨endLine, endDot⟩ := busSteps_atFrameDot start inside
  obtain ⟨zeroHit, overflow⟩ := busSteps_spriteFlags start _ inside
  obtain ⟨pending, busPending⟩ := busSteps_slots start _ inside
  refine ⟨_, exec_tick n s, Prod.ext endLine endDot, (busSteps_inVblank start _ inside).trans ?_,
    fun quiet => ?_, fun after enabled => ?_, zeroHit.trans ?_, overflow.trans ?_⟩
  · exact if_congr (by omega) rfl (decide_eq_decide.mpr (by omega))
  · have raisedNothing : raisedBefore s.ppu.ctrl (3 * n) = none := by
      refine if_neg fun ⟨passed, enabled⟩ => ?_
      obtain early | disabled := quiet
      · omega
      · exact Bool.false_ne_true (disabled.symm.trans enabled)
    rw [raisedNothing] at pending busPending
    exact ⟨pending, busPending⟩
  · have raisedNmi : raisedBefore s.ppu.ctrl (3 * n) = some .nmi := if_pos ⟨by omega, enabled⟩
    rw [raisedNmi] at pending busPending
    exact ⟨pending, busPending⟩
  · exact if_congr (by omega) rfl rfl
  · exact if_congr (by omega) rfl rfl

end Sys2Proof.Machine
end

section
/-! Bus address decode and dispatch (43_bus_dispatch.md): the RAM index as a number, the range of addresses behind each
target, the operation an address selects as BUS_READ and BUS_WRITE, and the mirrors of the PPU registers. -/

namespace Sys2Proof.Machine

/-! ### RAM (R194, R195) -/

theorem ramIndex_toNat (a : Addr) : (ramIndex a).toNat = a.toNat % 2048 := by
  rw [ramIndex, BitVec.extractLsb'_toNat, Nat.shiftRight_zero]

theorem State.ramByte_ramIndex (s : State) (a : Addr) :
    s.ramByte (ramIndex a) = s.ram.read Config.initRam (a.toNat % 2048) := by
  rw [State.ramByte, ramIndex_toNat]

theorem State.storeRam_ramIndex_read (s : State) (a : Addr) (b : Byte) (i : Nat) :
    (s.storeRam (ramIndex a) b).ram.read Config.initRam i =
      if i = a.toNat % 2048 then b else s.ram.read Config.initRam i := by
  rw [← ramIndex_toNat]
  exact Memory.read_write Config.initRam s.ram (ramIndex a).toNat i b

/-- Settles O9: the RAM index of the rule of RD_RAM is the address modulo 2048. -/
theorem ramReadMasksTheAddress : Obligations.RamReadMasksTheAddress := by
  intro a s _
  rw [exec_rdRam, State.ramByte_ramIndex]

/-- Settles O10, from the rule of WR_RAM, which stores at one index of the RAM. -/
theorem ramWriteStoresOneByte : Obligations.RamWriteStoresOneByte := by
  intro a b s _
  exact ⟨_, exec_wrRam a b s, State.storeRam_ramIndex_read s a b, rfl⟩

/-! ### The addresses of each target (R93) -/

theorem selectTarget_of_ram_range {a : Addr} (h : a ≤ 0x1FFF#16) : selectTarget a = .ram :=
  (selectTarget_ram a).mpr (decide_eq_true h)

theorem selectTarget_of_reg_range {a : Addr} (low : 0x2000#16 ≤ a) (high : a ≤ 0x3FFF#16) :
    selectTarget a = .reg (a.setWidth 3) :=
  (selectTarget_reg _ a).mpr ((addrIsReg_iff _ a).mpr ⟨low, high, BitVec.setWidth_eq_extractLsb' (by decide) |>.symm⟩)

theorem selectTarget_of_prg_range {a : Addr} (h : 0x4020#16 ≤ a) : selectTarget a = .prg :=
  (selectTarget_prg a).mpr (decide_eq_true h)

theorem selectTarget_of_unmapped_range {a : Addr} (low : 0x4000#16 ≤ a) (high : a ≤ 0x401F#16) (notDma : a ≠ 0x4014#16)
    (notInput : a ≠ 0x4016#16) : selectTarget a = .unmapped := by
  rw [selectTarget_unmapped, addrIsUnmapped]
  simp only [Bool.or_eq_true, Bool.and_eq_true, decide_eq_true_eq, beq_iff_eq]
  bv_omega

/-! ### The selected operation is BUS_READ or BUS_WRITE (R190, R191) -/

/-- The eight registers have an operation each, so their indices are gone through one by one. -/
theorem exec_decodeRead (a : Addr) (s : State) :
    exec (decodeRead a) s = .next ((busRead a s).2.setReply (.byte (busRead a s).1)) := by
  unfold decodeRead busRead
  cases selectTarget a with
  | reg i =>
    obtain ⟨n, hn⟩ := i
    interval_cases n <;> rfl
  | _ => rfl

theorem exec_decodeWrite (a : Addr) (b : Byte) (s : State) :
    exec (decodeWrite a b) s = .next ((busWrite a b s).setReply .nothing) := by
  unfold decodeWrite busWrite
  cases selectTarget a with
  | reg i =>
    obtain ⟨n, hn⟩ := i
    interval_cases n <;> rfl
  | _ => rfl

theorem busRead_of_reg {a : Addr} {i : BitVec 3} (h : selectTarget a = .reg i) (s : State) :
    busRead a s = ppuRead i s := by
  rw [busRead, h]

theorem busWrite_of_reg {a : Addr} {i : BitVec 3} (h : selectTarget a = .reg i) (b : Byte) (s : State) :
    busWrite a b s = writeReg i b s := by
  rw [busWrite, h]

theorem exec_ppuRegRd (i : BitVec 3) (s : State) :
    exec (.ppuRegRd i) s = .next ((ppuRead i s).2.setReply (.byte (ppuRead i s).1)) := rfl

/-! ### The latch into the Bus slot (R191, R197) -/

@[simp] theorem ppuWrite_busPending (i : BitVec 3) (b : Byte) (s : State) :
    (ppuWrite i b s).2.busPending = s.busPending := by
  rw [ppuWrite_frame]

theorem ppuWrite_raises_ne_irq (i : BitVec 3) (b : Byte) (s : State) : (ppuWrite i b s).1 ≠ some .irq := by
  rw [ppuWrite_raises, controlRaises]
  split
  · split <;> decide
  · decide

theorem latch_of_ne_irq {raised : Slot} (h : raised ≠ some .irq) (slot : Slot) :
    latch raised slot = if Reply.kind raised = .kind (some .nmi) then some .nmi else slot := by
  match raised, h with
  | none, _ => rfl
  | some .nmi, _ => rfl

/-- What the bus write adds to the direct port's write: its NMI is latched, and it returns nothing. -/
theorem writeReg_setReply_nothing (i : BitVec 3) (b : Byte) (s : State) :
    (writeReg i b s).setReply .nothing = { (ppuWrite i b s).2 with
      busPending := if Reply.kind (ppuWrite i b s).1 = .kind (some .nmi) then some .nmi else s.busPending
      reply := .nothing } := by
  rw [writeReg, raiseBus, ppuWrite_busPending, latch_of_ne_irq (ppuWrite_raises_ne_irq i b s)]
  rfl

/-! ### The mirrors of the PPU registers (R63, R219) -/

theorem registerMirror_toNat (a : Addr) : (0x2000#16 + (a &&& 7#16)).toNat = 0x2000 + a.toNat % 8 := by
  have lowBits : a.toNat &&& 7 = a.toNat % 8 := Nat.and_two_pow_sub_one_eq_mod a.toNat 3
  rw [BitVec.toNat_add, BitVec.toNat_and, BitVec.toNat_ofNat, BitVec.toNat_ofNat, lowBits]
  omega

theorem selectTarget_registerMirror (a : Addr) : selectTarget (0x2000#16 + (a &&& 7#16)) = .reg (a.setWidth 3) := by
  have value := registerMirror_toNat a
  have sameIndex : (0x2000#16 + (a &&& 7#16)).setWidth 3 = a.setWidth 3 := by
    apply BitVec.eq_of_toNat_eq
    rw [BitVec.toNat_setWidth, BitVec.toNat_setWidth, value]
    omega
  rw [← sameIndex]
  refine selectTarget_of_reg_range ?_ ?_
  · rw [BitVec.le_def, value, BitVec.toNat_ofNat]
    omega
  · rw [BitVec.le_def, value, BitVec.toNat_ofNat]
    omega

theorem decode_busRead (a : Addr) : decode (commandWord 0 0 a 0) = .ok (decodeRead a) := by
  rw [decode, opField_commandWord, subField_commandWord, aField_commandWord, dField_commandWord]
  rfl

theorem decode_busWrite (a : Addr) (b : Byte) : decode (commandWord 1 0 a b) = .ok (decodeWrite a b) := by
  rw [decode, opField_commandWord, subField_commandWord, aField_commandWord, dField_commandWord]
  rfl

theorem step_of_decode {w : Command} {i : Instr} (h : decode w = .ok i) (s : State) (rest : List Command) :
    step (s.setCommands (w :: rest)) = exec i (s.setCommands rest) := by
  simp only [step, State.setCommands_commands, h]
  rfl

theorem step_busRead_of_reg {a : Addr} {i : BitVec 3} (h : selectTarget a = .reg i) (s : State) (rest : List Command) :
    step (s.setCommands (commandWord 0 0 a 0 :: rest)) = exec (.ppuRegRd i) (s.setCommands rest) := by
  rw [step_of_decode (decode_busRead a), exec_decodeRead, busRead_of_reg h, exec_ppuRegRd]

theorem step_busWrite_of_reg {a : Addr} {i : BitVec 3} (h : selectTarget a = .reg i) (b : Byte) (s : State)
    (rest : List Command) :
    step (s.setCommands (commandWord 1 0 a b :: rest)) =
      .next ((writeReg i b (s.setCommands rest)).setReply .nothing) := by
  rw [step_of_decode (decode_busWrite a b), exec_decodeWrite, busWrite_of_reg h]

/-! ### The obligations -/

/-- Settles O26: both addresses select the register of the same index, and the step depends on the index alone. -/
theorem registerAccessesAreMirrored : Obligations.RegisterAccessesAreMirrored := by
  intro a b s rest low high
  have select : selectTarget a = .reg (a.setWidth 3) := selectTarget_of_reg_range (by bv_omega) high
  have selectMirror := selectTarget_registerMirror a
  constructor
  · rw [step_busRead_of_reg select, step_busRead_of_reg selectMirror]
  · rw [step_busWrite_of_reg select, step_busWrite_of_reg selectMirror]

/-- Settles O27: the selected operation is BUS_READ, range by range. -/
theorem busReadDispatchesByAddress : Obligations.BusReadDispatchesByAddress := by
  intro a s
  refine ⟨exec_decodeRead a s, fun ram => ?_, fun low high => ?_, fun input => ?_, fun prg => ?_,
    fun low high notInput => ?_⟩
  · rw [decodeRead, selectTarget_of_ram_range ram]
  · rw [exec_decodeRead, busRead_of_reg (selectTarget_of_reg_range low high), exec_ppuRegRd]
  · rw [decodeRead, (selectTarget_input a).mpr input]
  · rw [decodeRead, selectTarget_of_prg_range prg]
  · by_cases dma : a = 0x4014#16
    · rw [decodeRead, (selectTarget_oamDma a).mpr dma]
      rfl
    · rw [decodeRead, selectTarget_of_unmapped_range low high dma notInput]
      rfl

/-- Settles O28: the selected operation is BUS_WRITE, range by range; the register write is the direct port's but for the
latch. -/
theorem busWriteDispatchesByAddress : Obligations.BusWriteDispatchesByAddress := by
  intro a b s
  refine ⟨exec_decodeWrite a b s, fun ram => ?_, fun low high => ⟨_, exec_ppuRegWr (a.setWidth 3) b s, ?_⟩, fun dma => ?_,
    fun input => ?_, fun prg => ?_, fun low high notDma notInput => ?_⟩
  · rw [decodeWrite, selectTarget_of_ram_range ram]
  · rw [exec_decodeWrite, busWrite_of_reg (selectTarget_of_reg_range low high), writeReg_setReply_nothing]
    rfl
  · rw [decodeWrite, (selectTarget_oamDma a).mpr dma]
  · rw [decodeWrite, (selectTarget_input a).mpr input]
  · rw [decodeWrite, selectTarget_of_prg_range prg]
  · rw [decodeWrite, selectTarget_of_unmapped_range low high notDma notInput]
    rfl

end Sys2Proof.Machine
end

section
/-! OAM DMA and the peeks (44_bus_dma_tick_irq.md): what one pair does and what the pairs do together, the run of separate
operations a DMA stands for, and the copy of a RAM page. -/

namespace Sys2Proof.Machine

theorem exec_intPeek (s : State) : exec .intPeek s = .next (s.setReply (.kind s.busPending)) := rfl

theorem exec_dmaPeek (s : State) : exec .dmaPeek s = .next (s.setReply (.stall s.dmaStall)) := rfl

theorem exec_wrOamdma (p : Byte) (s : State) :
    exec (.wrOamdma p) s = .next (((dmaPairs p 256 s).setDmaStall true).setReply .nothing) := rfl

/-- Settles O43, from the rules of the two peeks. -/
theorem peeksChangeNothing : Obligations.PeeksChangeNothing :=
  fun s => ⟨exec_intPeek s, exec_dmaPeek s⟩

/-! ### What a bus read leaves to the OAM-data write -/

@[simp] theorem busRead_oam (a : Addr) (s : State) : (busRead a s).2.ppu.oam = s.ppu.oam := by
  rw [busRead_frame]

@[simp] theorem busRead_oamAddr (a : Addr) (s : State) : (busRead a s).2.ppu.oamAddr = s.ppu.oamAddr := by
  rw [busRead_frame]

@[simp] theorem busRead_register (a : Addr) (s : State) (j : BitVec 3) :
    (busRead a s).2.ppu.register j = s.ppu.register j := by
  rw [busRead_frame]; rfl

@[simp] theorem busRead_activeRendering (a : Addr) (s : State) :
    activeRendering (busRead a s).2.ppu = activeRendering s.ppu := by
  rw [busRead_frame]; rfl

/-! ### One pair (R231) -/

theorem dmaPair_ppu (p i : Byte) (s : State) :
    (dmaPair p i s).ppu =
      writeOamData (busRead (dmaSource p i) s).1 (busRead (dmaSource p i) s).2.ppu := rfl

theorem dmaPair_oam (p i : Byte) (s : State) :
    (dmaPair p i s).ppu.oam = if activeRendering s.ppu then s.ppu.oam
      else s.ppu.oam.write Config.initOam s.ppu.oamAddr.toNat (busRead (dmaSource p i) s).1 := by
  rw [dmaPair_ppu, writeOamData_eq, busRead_activeRendering, busRead_oam, busRead_oamAddr]

theorem dmaPair_oamByte_of_inactive {s : State} (inactive : activeRendering s.ppu = false) (p i x : Byte) :
    (dmaPair p i s).ppu.oamByte x =
      if x = s.ppu.oamAddr then (busRead (dmaSource p i) s).1 else s.ppu.oamByte x := by
  rw [Ppu.oamByte, dmaPair_oam, inactive]
  exact Ppu.oamByte_storeOam s.ppu s.ppu.oamAddr x _

theorem dmaPair_oamAddr (p i : Byte) (s : State) : (dmaPair p i s).ppu.oamAddr = s.ppu.oamAddr + 1 := by
  rw [dmaPair_ppu, writeOamData_eq, busRead_oamAddr]

theorem dmaPair_register (p i : Byte) (s : State) (j : BitVec 3) :
    (dmaPair p i s).ppu.register j = if j = 4 then (busRead (dmaSource p i) s).1 else s.ppu.register j := by
  rw [dmaPair_ppu, Ppu.register_of_registers_eq (by rw [writeOamData_eq]), busRead_register]

theorem dmaPair_setReply (p i : Byte) (s : State) (r : Reply) :
    dmaPair p i (s.setReply r) = (dmaPair p i s).setReply r := by
  simp only [dmaPair, busRead_setReply, ppuWrite_setReply]

/-- A pair is the read operation its address selects, then WR_OAMDATA of the byte replied. -/
theorem exec_dmaPair (p i : Byte) (s : State) :
    ∃ r b, exec (decodeRead (dmaSource p i)) s = .next r ∧ r.reply = .byte b ∧
      exec (.wrOamdata 0x2004 b) r = .next ((dmaPair p i s).setReply .nothing) :=
  ⟨_, _, exec_decodeRead _ s, rfl, exec_wrOamdata _ _ _⟩

/-! ### The pairs together -/

theorem dmaPairs_oamAddr (p : Byte) (n : Nat) (s : State) :
    (dmaPairs p n s).ppu.oamAddr = s.ppu.oamAddr + BitVec.ofNat 8 n := by
  induction n with
  | zero => exact (BitVec.add_zero _).symm
  | succ k ih => rw [dmaPairs, dmaPair_oamAddr, ih, BitVec.ofNat_add, BitVec.add_assoc]; rfl

/-- 256 advances bring the cursor round. -/
theorem dmaPairs_256_oamAddr (p : Byte) (s : State) : (dmaPairs p 256 s).ppu.oamAddr = s.ppu.oamAddr :=
  (dmaPairs_oamAddr p 256 s).trans (BitVec.add_zero _)

theorem dmaPairs_ram (p : Byte) (n : Nat) (s : State) : (dmaPairs p n s).ram = s.ram := by
  rw [dmaPairs_frame]

theorem dmaPairs_activeRendering (p : Byte) (n : Nat) (s : State) :
    activeRendering (dmaPairs p n s).ppu = activeRendering s.ppu := by
  rw [dmaPairs_frame]; rfl

theorem dmaPairs_oam_of_active {s : State} (active : activeRendering s.ppu = true) (p : Byte) (n : Nat) :
    (dmaPairs p n s).ppu.oam = s.ppu.oam := by
  induction n with
  | zero => rfl
  | succ k ih => rw [dmaPairs, dmaPair_oam, dmaPairs_activeRendering, if_pos active, ih]

theorem dmaPairs_register_of_ne {j : BitVec 3} (h : j ≠ 4) (p : Byte) (n : Nat) (s : State) :
    (dmaPairs p n s).ppu.register j = s.ppu.register j := by
  induction n with
  | zero => rfl
  | succ k ih => rw [dmaPairs, dmaPair_register, if_neg h, ih]

/-- The cursor never leaves the 256 bytes, so a list that reads beyond them reads as before. -/
theorem dmaPairs_oam_read_of_ge {x : Nat} (h : 256 ≤ x) (p : Byte) (n : Nat) (s : State) :
    (dmaPairs p n s).ppu.oam.read Config.initOam x = s.ppu.oam.read Config.initOam x := by
  induction n with
  | zero => rfl
  | succ k ih =>
    have beyond : x ≠ (dmaPairs p k s).ppu.oamAddr.toNat := by
      have := (dmaPairs p k s).ppu.oamAddr.isLt
      omega
    rw [dmaPairs, dmaPair_oam]
    split
    · exact ih
    · rw [Memory.read_write_other _ _ _ beyond, ih]

/-! ### A DMA as a run of separate operations (R231) -/

/-- The states between the pairs of a DMA when each pair is two operations of its own, which end without a reply. -/
def dmaRun (p : Byte) (s : State) : Nat → State
  | 0 => s
  | k + 1 => (dmaPair p (BitVec.ofNat 8 k) (dmaRun p s k)).setReply .nothing

theorem dmaRun_setReply (p : Byte) (s : State) (n : Nat) (r : Reply) :
    (dmaRun p s n).setReply r = (dmaPairs p n s).setReply r := by
  induction n with
  | zero => rfl
  | succ k ih =>
    calc (dmaRun p s (k + 1)).setReply r
        = (dmaPair p (BitVec.ofNat 8 k) (dmaRun p s k)).setReply r := rfl
      _ = dmaPair p (BitVec.ofNat 8 k) ((dmaPairs p k s).setReply r) := by rw [← dmaPair_setReply, ih]
      _ = (dmaPairs p (k + 1) s).setReply r := dmaPair_setReply _ _ _ _

/-- Settles O35: a pair is two operations run one after the other, and 256 of them bring the cursor round. -/
theorem oamDmaOfAnyPageKeepsTheRest : Obligations.OamDmaOfAnyPageKeepsTheRest := by
  intro p s
  refine ⟨_, exec_wrOamdma p s, ⟨dmaRun p s, rfl, fun k _ => exec_dmaPair p _ (dmaRun p s k), ?_⟩,
    fun active => dmaPairs_oam_of_active active p 256, fun j h => dmaPairs_register_of_ne h p 256 s, ?_⟩
  · exact congrArg (State.setDmaStall · true) (dmaRun_setReply p s 256 .nothing).symm
  · have frame := dmaPairs_frame p 256 s
    rw [dmaPairs_256_oamAddr] at frame
    exact congrArg (fun r => (r.setDmaStall true).setReply .nothing) frame

/-! ### The copy of a RAM page (R242, parts a to c) -/

/-- The byte of RAM that pair `i` of a DMA from page `p` reads, through the mirrors of R62. -/
def State.pageByte (s : State) (p i : Byte) : Byte := s.ramByte (ramIndex (dmaSource p i))

theorem State.pageByte_eq (s : State) (p i : Byte) :
    s.pageByte p i = s.ram.read Config.initRam ((p.toNat * 256 + i.toNat) % 2048) := by
  rw [State.pageByte, State.ramByte_ramIndex, dmaSource_toNat]

theorem dmaPairs_pageByte (p i q : Byte) (n : Nat) (s : State) :
    (dmaPairs q n s).pageByte p i = s.pageByte p i := by
  rw [State.pageByte_eq, State.pageByte_eq, dmaPairs_ram]

section RamPage

variable {p : Byte} (page : p < 0x20#8)
include page

theorem busRead_of_ramPage (i : Byte) (s : State) : busRead (dmaSource p i) s = (s.pageByte p i, s) := by
  have range : dmaSource p i ≤ 0x1FFF#16 := by
    rw [BitVec.lt_def, BitVec.toNat_ofNat] at page
    rw [BitVec.le_def, dmaSource_toNat, BitVec.toNat_ofNat]
    have := i.isLt
    omega
  rw [busRead, selectTarget_of_ram_range range]
  rfl

theorem dmaPair_of_ramPage (i : Byte) (s : State) :
    dmaPair p i s = s.setPpu (writeOamData (s.pageByte p i) s.ppu) := by
  rw [dmaPair, busRead_of_ramPage page]
  rfl

/-- RAM is read without side effects, so the image, OAM and the cursor alone move. -/
theorem dmaPairs_of_ramPage_frame (n : Nat) (s : State) :
    dmaPairs p n s = { s with
      ppu := { s.ppu with
        registers := (dmaPairs p n s).ppu.registers
        oam := (dmaPairs p n s).ppu.oam
        oamAddr := (dmaPairs p n s).ppu.oamAddr } } := by
  induction n with
  | zero => rfl
  | succ k ih =>
    rw [dmaPairs, dmaPair_of_ramPage page, writeOamData_eq, ih]
    rfl

theorem dmaPairs_of_ramPage_lastByte (n : Nat) (s : State) :
    (dmaPairs p (n + 1) s).ppu.register 4 = s.pageByte p (BitVec.ofNat 8 n) := by
  rw [dmaPairs, dmaPair_register, if_pos rfl, busRead_of_ramPage page, dmaPairs_pageByte]

/-- After `n` pairs the first `n` bytes from the cursor on are the page's. -/
theorem dmaPairs_of_ramPage_oamByte {s : State} (inactive : activeRendering s.ppu = false) (i : Byte) (n : Nat)
    (hn : n ≤ 256) :
    (dmaPairs p n s).ppu.oamByte (s.ppu.oamAddr + i) =
      if i.toNat < n then s.pageByte p i else s.ppu.oamByte (s.ppu.oamAddr + i) := by
  induction n with
  | zero => rfl
  | succ k ih =>
    have inactiveThere := (dmaPairs_activeRendering p k s).trans inactive
    rw [dmaPairs, dmaPair_oamByte_of_inactive inactiveThere, dmaPairs_oamAddr, busRead_of_ramPage page,
      dmaPairs_pageByte, ih (by omega)]
    have atCursor : s.ppu.oamAddr + i = s.ppu.oamAddr + BitVec.ofNat 8 k ↔ i.toNat = k := by
      rw [BitVec.add_right_inj, ← BitVec.toNat_inj, BitVec.toNat_ofNat, Nat.mod_eq_of_lt (by omega)]
    by_cases here : i.toNat = k
    · have index : BitVec.ofNat 8 k = i := by rw [← here, BitVec.ofNat_toNat, BitVec.setWidth_eq]
      rw [if_pos (atCursor.mpr here), if_pos (by omega), index]
    · have sameBytes : i.toNat < k ↔ i.toNat < k + 1 := by omega
      rw [if_neg (mt atCursor.mp here), if_congr sameBytes rfl rfl]

end RamPage

/-- Settles O34: the pairs of a RAM page store its bytes from the cursor on, unless rendering is active. -/
theorem oamDmaCopiesARamPage : Obligations.OamDmaCopiesARamPage := by
  intro p s page
  refine ⟨_, exec_wrOamdma p s, fun inactive => ⟨fun i => ?_, fun x beyond => dmaPairs_oam_read_of_ge beyond p 256 s⟩,
    fun active => dmaPairs_oam_of_active active p 256, fun j => ?_, ?_⟩
  · have copied := dmaPairs_of_ramPage_oamByte page inactive i 256 (Nat.le_refl 256)
    rw [if_pos i.isLt, State.pageByte_eq] at copied
    exact copied
  · split
    · next image =>
      rw [image]
      exact (dmaPairs_of_ramPage_lastByte page 255 s).trans (State.pageByte_eq s p 255)
    · next other => exact dmaPairs_register_of_ne other p 256 s
  · have frame := dmaPairs_of_ramPage_frame page 256 s
    rw [dmaPairs_256_oamAddr] at frame
    exact congrArg (fun r => (r.setDmaStall true).setReply .nothing) frame

end Sys2Proof.Machine
end

section
/-! The rendering queries and the FrameSink (45_collaborator_ports.md sections 3 and 5): one rule for each query and for
FS_SET_PIXEL, and where a run of FS_SET_PIXEL leaves the cursor. -/

namespace Sys2Proof.Machine

/-! ### The rendering queries -/

theorem exec_qV (s : State) : exec .qV s = .next (s.setReply (.scroll s.ppu.v)) := rfl

theorem exec_qFinex (s : State) : exec .qFinex s = .next (s.setReply (.fineX s.ppu.fineX)) := rfl

theorem exec_qOam (i : Byte) (s : State) : exec (.qOam i) s = .next (s.setReply (.byte (s.ppu.oamByte i))) := rfl

theorem exec_qSecoam (i : BitVec 5) (s : State) :
    exec (.qSecoam i) s = .next (s.setReply (.byte (s.ppu.secondaryOamByte i))) := rfl

theorem exec_qReg (i : BitVec 3) (s : State) : exec (.qReg i) s = .next (s.setReply (.byte (s.ppu.register i))) := rfl

/-- Settles O49, from the rules of the five queries and of SR_RAW: each sets the reply alone. -/
theorem queriesChangeNothing : Obligations.QueriesChangeNothing :=
  fun s => ⟨exec_qV s, exec_qFinex s, fun i => exec_qOam i s, fun i => exec_qSecoam i s, fun i => exec_qReg i s,
    exec_srRaw .v s, exec_srRaw .t s⟩

/-! ### The FrameSink -/

theorem FrameSink.setPixel_pixels_read (f : FrameSink) (c : Colour) (i : Nat) :
    (f.setPixel c).pixels.read Config.initPixels i =
      if i = f.cursor then c else f.pixels.read Config.initPixels i :=
  Memory.read_write Config.initPixels f.pixels f.cursor i c

@[simp] theorem FrameSink.setPixel_cursor (f : FrameSink) (c : Colour) :
    (f.setPixel c).cursor = (f.cursor + 1) % 61440 := rfl

theorem FrameSink.setPixel_cursor_lt (f : FrameSink) (c : Colour) : (f.setPixel c).cursor < 61440 :=
  Nat.mod_lt _ (by decide)

theorem exec_fsSetPixel (c : Colour) (s : State) :
    exec (.fsSetPixel c) s = .next ((s.setSink (s.sink.setPixel c)).setReply .nothing) := rfl

/-- Each call moves the cursor on by one and keeps it in range, where the next call's law holds again. -/
theorem execAll_fsSetPixel (cs : List Colour) (s : State) (inRange : s.sink.cursor < 61440) :
    ∃ t, execAll (cs.map .fsSetPixel) s = .next t ∧ t.sink.cursor = (s.sink.cursor + cs.length) % 61440 := by
  induction cs generalizing s with
  | nil => exact ⟨s, rfl, (Nat.mod_eq_of_lt inRange).symm⟩
  | cons c rest ih =>
    obtain ⟨t, run, cursor⟩ :=
      ih ((s.setSink (s.sink.setPixel c)).setReply .nothing) (s.sink.setPixel_cursor_lt c)
    refine ⟨t, (execAll_cons_next (exec_fsSetPixel c s) _).trans run, ?_⟩
    rw [cursor, State.setReply_sink, State.setSink_sink, FrameSink.setPixel_cursor, List.length_cons, Nat.mod_add_mod,
      Nat.add_assoc, Nat.add_comm 1]

/-- Settles O57: the rule of FS_SET_PIXEL gives one call, and its run law gives a list of calls by induction. -/
theorem setPixelWritesAtTheCursor : Obligations.SetPixelWritesAtTheCursor :=
  ⟨fun c s => ⟨_, exec_fsSetPixel c s, s.sink.setPixel_pixels_read c, s.sink.setPixel_cursor c, rfl⟩,
    execAll_fsSetPixel⟩

end Sys2Proof.Machine
end

section
/-! The command words (30_encoding.md): what the four fields of a word can spell, said once for the decoder, and from it
the two directions of the round trip, the opcode table and the refusals. -/

namespace Sys2Proof

/-! ### The operation behind each target of the bus decode (R93) -/

/-- The bus read of PPU register `j` at address `a`. -/
def regReadOp (j : BitVec 3) (a : Addr) : Instr :=
  match j.toNat with
  | 0 => .rdPpuctrl a
  | 1 => .rdPpumask a
  | 2 => .rdPpustatus a
  | 3 => .rdOamaddr a
  | 4 => .rdOamdata a
  | 5 => .rdPpuscroll a
  | 6 => .rdPpuaddr a
  | _ => .rdPpudata a

/-- The bus write of PPU register `j` at address `a`. -/
def regWriteOp (j : BitVec 3) (a : Addr) (b : Byte) : Instr :=
  match j.toNat with
  | 0 => .wrPpuctrl a b
  | 1 => .wrPpumask a b
  | 2 => .wrPpustatus a b
  | 3 => .wrOamaddr a b
  | 4 => .wrOamdata a b
  | 5 => .wrPpuscroll a b
  | 6 => .wrPpuaddr a b
  | _ => .wrPpudata a b

/-- The bus read of a target at address `a`. -/
def readOp (target : BusTarget) (a : Addr) : Instr :=
  match target with
  | .ram => .rdRam a
  | .reg j => regReadOp j a
  | .oamDma => .rdOamdma
  | .input => .rdInput
  | .unmapped => .rdUnmapped a
  | .prg => .rdPrg a

/-- The bus write of a target at address `a`. -/
def writeOp (target : BusTarget) (a : Addr) (b : Byte) : Instr :=
  match target with
  | .ram => .wrRam a b
  | .reg j => regWriteOp j a b
  | .oamDma => .wrOamdma b
  | .input => .wrInput b
  | .unmapped => .wrUnmapped a b
  | .prg => .wrPrg a b

theorem decodeRead_eq (a : Addr) : decodeRead a = readOp (selectTarget a) a := by
  unfold decodeRead
  cases selectTarget a <;> rfl

theorem decodeWrite_eq (a : Addr) (b : Byte) : decodeWrite a b = writeOp (selectTarget a) a b := by
  unfold decodeWrite
  cases selectTarget a <;> rfl

/-- The eight registers have an operation each, so their indices are gone through one by one. -/
theorem wellFormed_regReadOp (j : BitVec 3) (a : Addr) : wellFormed (regReadOp j a) = addrIsReg j a := by
  obtain ⟨n, hn⟩ := j
  interval_cases n <;> rfl

theorem wellFormed_regWriteOp (j : BitVec 3) (a : Addr) (b : Byte) :
    wellFormed (regWriteOp j a b) = addrIsReg j a := by
  obtain ⟨n, hn⟩ := j
  interval_cases n <;> rfl

theorem encode_regReadOp (j : BitVec 3) (a : Addr) : encode (regReadOp j a) = commandWord 0 0 a 0 := by
  obtain ⟨n, hn⟩ := j
  interval_cases n <;> rfl

theorem encode_regWriteOp (j : BitVec 3) (a : Addr) (b : Byte) :
    encode (regWriteOp j a b) = commandWord 1 0 a b := by
  obtain ⟨n, hn⟩ := j
  interval_cases n <;> rfl

/-- The read operation an address selects is well-formed and has the address's own word. -/
theorem decodeRead_canonical (a : Addr) :
    wellFormed (decodeRead a) = true ∧ encode (decodeRead a) = commandWord 0 0 a 0 := by
  rw [decodeRead_eq]
  cases select : selectTarget a with
  | ram => exact ⟨(selectTarget_ram a).mp select, rfl⟩
  | reg j => exact ⟨(wellFormed_regReadOp j a).trans ((selectTarget_reg j a).mp select), encode_regReadOp j a⟩
  | oamDma => exact ⟨rfl, by rw [(selectTarget_oamDma a).mp select]; rfl⟩
  | input => exact ⟨rfl, by rw [(selectTarget_input a).mp select]; rfl⟩
  | unmapped => exact ⟨(selectTarget_unmapped a).mp select, rfl⟩
  | prg => exact ⟨(selectTarget_prg a).mp select, rfl⟩

/-- The write operation an address selects is well-formed and has the address's own word. -/
theorem decodeWrite_canonical (a : Addr) (b : Byte) :
    wellFormed (decodeWrite a b) = true ∧ encode (decodeWrite a b) = commandWord 1 0 a b := by
  rw [decodeWrite_eq]
  cases select : selectTarget a with
  | ram => exact ⟨(selectTarget_ram a).mp select, rfl⟩
  | reg j =>
    exact ⟨(wellFormed_regWriteOp j a b).trans ((selectTarget_reg j a).mp select), encode_regWriteOp j a b⟩
  | oamDma => exact ⟨rfl, by rw [(selectTarget_oamDma a).mp select]; rfl⟩
  | input => exact ⟨rfl, by rw [(selectTarget_input a).mp select]; rfl⟩
  | unmapped => exact ⟨(selectTarget_unmapped a).mp select, rfl⟩
  | prg => exact ⟨(selectTarget_prg a).mp select, rfl⟩

/-! ### Operands narrower than a field (R99) -/

@[simp] theorem extractLsb'_low_setWidth {n : Nat} (h : n ≤ 16) (x : BitVec n) :
    (x.setWidth 16).extractLsb' 0 n = x := by
  refine BitVec.eq_of_getLsbD_eq fun k hk => ?_
  simp [hk, show k < 16 by omega]

@[simp] theorem extractLsb'_high_setWidth {n len : Nat} (x : BitVec n) : (x.setWidth 16).extractLsb' n len = 0 := by
  refine BitVec.eq_of_getLsbD_eq fun k _ => ?_
  rw [BitVec.getLsbD_extractLsb', BitVec.getLsbD_setWidth, BitVec.getLsbD_of_ge x (n + k) (by omega)]
  simp

/-- A field whose unused high part is 0 is its used low part, widened. -/
theorem setWidth_extractLsb'_low {n len : Nat} (hn : n + len = 16) {a : Addr} (h : a.extractLsb' n len = 0) :
    (a.extractLsb' 0 n).setWidth 16 = a := by
  refine BitVec.eq_of_getLsbD_eq fun k hk => ?_
  rw [BitVec.getLsbD_setWidth, BitVec.getLsbD_extractLsb', Nat.zero_add]
  by_cases low : k < n
  · simp [low, hk]
  · have bit := congrArg (BitVec.getLsbD · (k - n)) h
    rw [BitVec.getLsbD_extractLsb', Nat.add_sub_cancel' (by omega)] at bit
    simpa [low, show k - n < len by omega] using bit.symm

@[simp] theorem encodeTarget_value (r : ScrollTarget) (x : Scroll) : (encodeTarget r x).extractLsb' 0 15 = x := by
  cases r <;> exact BitVec.extractLsb'_append_eq_right

@[simp] theorem decodeTarget_encodeTarget (r : ScrollTarget) (x : Scroll) : decodeTarget (encodeTarget r x) = r := by
  have bit : (encodeTarget r x).getLsbD 15 = decide (r = .t) := by
    cases r <;> exact BitVec.getLsbD_append
  rw [decodeTarget, bit]
  cases r <;> rfl

/-- `a` of an SR word is its target bit above its value. -/
theorem encodeTarget_decodeTarget (a : Addr) : encodeTarget (decodeTarget a) (a.extractLsb' 0 15) = a := by
  have split : ∀ c : BitVec 1, c.getLsbD 0 = a.getLsbD 15 → c ++ a.extractLsb' 0 15 = a := by
    intro c top
    refine BitVec.eq_of_getLsbD_eq fun k hk => ?_
    rw [BitVec.getLsbD_append, BitVec.getLsbD_extractLsb', Nat.zero_add]
    by_cases low : k < 15
    · simp [low]
    · obtain rfl : k = 15 := by omega
      simpa using top
  unfold decodeTarget
  split
  · next t => exact split 1#1 t.symm
  · next v => exact split 0#1 (by simpa using v)

/-! ### What four fields can spell (R92 to R111, R117) -/

/-- The operations without an operand: class, `sub`, operation. -/
def plainOps : List (BitVec 4 × BitVec 4 × Instr) :=
  [(3, 0, .reset), (3, 1, .powerOn), (3, 2, .intPeek), (3, 3, .intTake), (3, 4, .dmaPeek), (3, 5, .dmaClear),
   (3, 6, .ppuIntAck), (4, 1, .extRaiseNmi), (4, 2, .extRaiseIrq), (5, 0, .rendIncX), (5, 1, .rendIncY),
   (5, 2, .rendSetS0hit), (5, 3, .rendSetOvf), (5, 8, .qV), (5, 9, .qFinex), (6, 0, .ppuStep)]

/-- The ScrollRegister operations whose one operand is their target: `sub`, operation. -/
def targetOps : List (BitVec 4 × (ScrollTarget → Instr)) :=
  [(0, .srIncX), (1, .srIncY), (2, .srSetH), (3, .srSetV), (5, .srRaw)]

/-- `Spells a d op sub c i`: with the other two fields `a` and `d`, the fields `op` and `sub` stand for the operation
`i`, provided `c` holds: that what the operation does not use is 0. -/
inductive Spells (a : Addr) (d : Byte) : BitVec 4 → BitVec 4 → Bool → Instr → Prop where
  | busRead (sub : BitVec 4) : Spells a d 0 sub (sub == 0 && d == 0) (decodeRead a)
  | busWrite (sub : BitVec 4) : Spells a d 1 sub (sub == 0) (decodeWrite a d)
  | tick (sub : BitVec 4) : Spells a d 2 sub (sub == 0 && d == 0) (.tick a.toNat)
  | plain {op sub : BitVec 4} {i : Instr} (h : (op, sub, i) ∈ plainOps) : Spells a d op sub (a == 0 && d == 0) i
  | secoamWr : Spells a d 5 4 (a.extractLsb' 5 11 == 0) (.rendSecoamWr (a.extractLsb' 0 5) d)
  | qOam : Spells a d 5 10 (a.extractLsb' 8 8 == 0 && d == 0) (.qOam (a.extractLsb' 0 8))
  | qSecoam : Spells a d 5 11 (a.extractLsb' 5 11 == 0 && d == 0) (.qSecoam (a.extractLsb' 0 5))
  | qReg : Spells a d 5 12 (a.extractLsb' 3 13 == 0 && d == 0) (.qReg (a.extractLsb' 0 3))
  | regRd : Spells a d 6 1 (a.extractLsb' 3 13 == 0 && d == 0) (.ppuRegRd (a.extractLsb' 0 3))
  | regWr : Spells a d 6 2 (a.extractLsb' 3 13 == 0) (.ppuRegWr (a.extractLsb' 0 3) d)
  | target {sub : BitVec 4} {f : ScrollTarget → Instr} (h : (sub, f) ∈ targetOps) :
      Spells a d 7 sub (a.extractLsb' 0 15 == 0 && d == 0) (f (decodeTarget a))
  | bump1 (h : d = 1) : Spells a d 7 4 (a.extractLsb' 0 15 == 0) (.srBump1 (decodeTarget a))
  | bump32 (h : d = 32) : Spells a d 7 4 (a.extractLsb' 0 15 == 0) (.srBump32 (decodeTarget a))
  | setRaw : Spells a d 7 6 (d == 0) (.srSetRaw (decodeTarget a) (a.extractLsb' 0 15))
  | setPixel (sub : BitVec 4) : Spells a d 8 sub (sub == 0) (.fsSetPixel (a ++ d))

/-- `op` and `sub` stand for an operation, if need be with this `d` (R92; the complement of the words R117 refuses by
their class, `sub`, kind or amount). -/
def Assigned (op sub : BitVec 4) (d : Byte) : Prop :=
  op.toNat ≤ 8 ∧ (op = 3 → sub.toNat ≤ 6) ∧ (op = 4 → sub = 1 ∨ sub = 2) ∧
    (op = 5 → sub.toNat ≤ 4 ∨ (8 ≤ sub.toNat ∧ sub.toNat ≤ 12)) ∧ (op = 6 → sub.toNat ≤ 2) ∧
    (op = 7 → sub.toNat ≤ 6 ∧ (sub = 4 → d = 1 ∨ d = 32))

/-- Why fields that are not assigned stand for no operation. -/
def refusal (op sub : BitVec 4) (d : Byte) : Reject :=
  if 9 ≤ op.toNat then .reservedOp op
  else if op = 4 then .raiseKind sub
  else if op = 7 ∧ sub = 4 then .bumpAmount d
  else .reservedSub op sub

/-- What the decoder can answer for four fields. -/
inductive Decoded (a : Addr) (d : Byte) (op sub : BitVec 4) : Except Reject Instr → Prop where
  | spelled {c : Bool} {i : Instr} (h : Spells a d op sub c i) : Decoded a d op sub (whenUnusedZero c op sub i)
  | refused (h : ¬Assigned op sub d) : Decoded a d op sub (.error (refusal op sub d))

theorem eq_ofNat_of_toNat_eq {w n : Nat} {x : BitVec w} (h : x.toNat = n) : x = BitVec.ofNat w n := by
  rw [← h, BitVec.ofNat_toNat, BitVec.setWidth_eq]

theorem decodeSys_decoded (sub : BitVec 4) (a : Addr) (d : Byte) : Decoded a d 3 sub (decodeSys sub a d) := by
  unfold decodeSys
  split
  case h_8 => exact .refused (by grind [Assigned])
  all_goals
    next h =>
      obtain rfl := eq_ofNat_of_toNat_eq h
      exact .spelled (.plain (by decide))

theorem decodeExt_decoded (sub : BitVec 4) (a : Addr) (d : Byte) : Decoded a d 4 sub (decodeExt sub a d) := by
  unfold decodeExt
  split
  case h_3 => exact .refused (by grind [Assigned])
  all_goals
    next h =>
      obtain rfl := eq_ofNat_of_toNat_eq h
      exact .spelled (.plain (by decide))

theorem decodeRend_decoded (sub : BitVec 4) (a : Addr) (d : Byte) : Decoded a d 5 sub (decodeRend sub a d) := by
  unfold decodeRend
  split
  case h_11 => exact .refused (by grind [Assigned])
  all_goals
    rename_i h
    obtain rfl := eq_ofNat_of_toNat_eq h
  case h_5 => exact .spelled .secoamWr
  case h_8 => exact .spelled .qOam
  case h_9 => exact .spelled .qSecoam
  case h_10 => exact .spelled .qReg
  all_goals exact .spelled (.plain (by decide))

theorem decodePpu_decoded (sub : BitVec 4) (a : Addr) (d : Byte) : Decoded a d 6 sub (decodePpu sub a d) := by
  unfold decodePpu
  split
  case h_4 => exact .refused (by grind [Assigned])
  all_goals
    rename_i h
    obtain rfl := eq_ofNat_of_toNat_eq h
  case h_1 => exact .spelled (.plain (by decide))
  case h_2 => exact .spelled .regRd
  case h_3 => exact .spelled .regWr

theorem decodeSr_decoded (sub : BitVec 4) (a : Addr) (d : Byte) : Decoded a d 7 sub (decodeSr sub a d) := by
  unfold decodeSr
  split
  case h_8 =>
    have reserved : ¬sub.toNat ≤ 6 := by grind
    have notBump : ¬((7 : BitVec 4) = 7 ∧ sub = 4) := by grind
    have reason : refusal 7 sub d = .reservedSub 7 sub := if_neg notBump
    rw [← reason]
    exact .refused (by grind [Assigned])
  all_goals
    rename_i h
    obtain rfl := eq_ofNat_of_toNat_eq h
  case h_5 =>
    split
    · next h1 => exact .spelled (.bump1 h1)
    · next h1 =>
      split
      · next h32 => exact .spelled (.bump32 h32)
      · next h32 => exact .refused (by grind [Assigned])
  case h_7 => exact .spelled .setRaw
  all_goals exact .spelled (.target (by simp [targetOps]))

theorem decodeFields_decoded (op sub : BitVec 4) (a : Addr) (d : Byte) :
    Decoded a d op sub (decodeFields op sub a d) := by
  unfold decodeFields
  split
  case h_10 =>
    have reserved : 9 ≤ op.toNat := by grind
    have reason : refusal op sub d = .reservedOp op := if_pos reserved
    rw [← reason]
    exact .refused (by grind [Assigned])
  all_goals
    rename_i h
    obtain rfl := eq_ofNat_of_toNat_eq h
  · exact .spelled (.busRead sub)
  · exact .spelled (.busWrite sub)
  · exact .spelled (.tick sub)
  · exact decodeSys_decoded sub a d
  · exact decodeExt_decoded sub a d
  · exact decodeRend_decoded sub a d
  · exact decodePpu_decoded sub a d
  · exact decodeSr_decoded sub a d
  · exact .spelled (.setPixel sub)

theorem whenUnusedZero_eq_ok {c : Bool} {op sub : BitVec 4} {i j : Instr} (h : whenUnusedZero c op sub i = .ok j) :
    c = true ∧ i = j := by
  cases c with
  | true => exact ⟨rfl, Except.ok.inj h⟩
  | false => cases h

theorem plainOps_canonical :
    ∀ x ∈ plainOps, wellFormed x.2.2 = true ∧ encode x.2.2 = commandWord x.1 x.2.1 0 0 := by
  decide

theorem targetOps_canonical (r : ScrollTarget) :
    ∀ x ∈ targetOps, wellFormed (x.2 r) = true ∧ encode (x.2 r) = commandWord 7 x.1 (encodeTarget r 0) 0 := by
  cases r <;> decide

theorem Spells.canonical {a : Addr} {d : Byte} {op sub : BitVec 4} {c : Bool} {i : Instr}
    (h : Spells a d op sub c i) (used : c = true) : wellFormed i = true ∧ encode i = commandWord op sub a d := by
  cases h with
  | busRead sub =>
    obtain ⟨rfl, rfl⟩ : sub = 0 ∧ d = 0 := by simpa using used
    exact decodeRead_canonical a
  | busWrite sub =>
    obtain rfl : sub = 0 := by simpa using used
    exact decodeWrite_canonical a d
  | tick sub =>
    obtain ⟨rfl, rfl⟩ : sub = 0 ∧ d = 0 := by simpa using used
    exact ⟨decide_eq_true a.isLt, by rw [encode, BitVec.ofNat_toNat, BitVec.setWidth_eq]⟩
  | plain h =>
    obtain ⟨rfl, rfl⟩ : a = 0 ∧ d = 0 := by simpa using used
    exact plainOps_canonical _ h
  | secoamWr =>
    have high : a.extractLsb' 5 11 = 0 := by simpa using used
    exact ⟨rfl, by rw [encode, setWidth_extractLsb'_low rfl high]⟩
  | qOam =>
    obtain ⟨high, rfl⟩ : a.extractLsb' 8 8 = 0 ∧ d = 0 := by simpa using used
    exact ⟨rfl, by rw [encode, setWidth_extractLsb'_low rfl high]⟩
  | qSecoam =>
    obtain ⟨high, rfl⟩ : a.extractLsb' 5 11 = 0 ∧ d = 0 := by simpa using used
    exact ⟨rfl, by rw [encode, setWidth_extractLsb'_low rfl high]⟩
  | qReg =>
    obtain ⟨high, rfl⟩ : a.extractLsb' 3 13 = 0 ∧ d = 0 := by simpa using used
    exact ⟨rfl, by rw [encode, setWidth_extractLsb'_low rfl high]⟩
  | regRd =>
    obtain ⟨high, rfl⟩ : a.extractLsb' 3 13 = 0 ∧ d = 0 := by simpa using used
    exact ⟨rfl, by rw [encode, setWidth_extractLsb'_low rfl high]⟩
  | regWr =>
    have high : a.extractLsb' 3 13 = 0 := by simpa using used
    exact ⟨rfl, by rw [encode, setWidth_extractLsb'_low rfl high]⟩
  | target h =>
    obtain ⟨value, rfl⟩ : a.extractLsb' 0 15 = 0 ∧ d = 0 := by simpa using used
    have word := targetOps_canonical (decodeTarget a) _ h
    rwa [← value, encodeTarget_decodeTarget] at word
  | bump1 h =>
    have value : a.extractLsb' 0 15 = 0 := by simpa using used
    exact ⟨rfl, by rw [encode, ← value, encodeTarget_decodeTarget, h]⟩
  | bump32 h =>
    have value : a.extractLsb' 0 15 = 0 := by simpa using used
    exact ⟨rfl, by rw [encode, ← value, encodeTarget_decodeTarget, h]⟩
  | setRaw =>
    obtain rfl : d = 0 := by simpa using used
    exact ⟨rfl, by rw [encode, encodeTarget_decodeTarget]⟩
  | setPixel sub =>
    obtain rfl : sub = 0 := by simpa using used
    have high : (a ++ d).extractLsb' 8 16 = a := BitVec.extractLsb'_append_eq_left
    have low : (a ++ d).extractLsb' 0 8 = d := BitVec.extractLsb'_append_eq_right
    exact ⟨rfl, by rw [encode, high, low]⟩

theorem Decoded.canonical {a : Addr} {d : Byte} {op sub : BitVec 4} {r : Except Reject Instr} {i : Instr}
    (h : Decoded a d op sub r) (ok : r = .ok i) : wellFormed i = true ∧ encode i = commandWord op sub a d := by
  cases h with
  | spelled spells =>
    obtain ⟨used, rfl⟩ := whenUnusedZero_eq_ok ok
    exact spells.canonical used
  | refused _ => cases ok

/-- Settles O2: what the fields of an accepted word spell has those fields. -/
theorem encodeInvertsDecode : Obligations.EncodeInvertsDecode := by
  intro w i ok
  have canonical := (decodeFields_decoded (opField w) (subField w) (aField w) (dField w)).canonical ok
  rwa [commandWord_fields] at canonical

theorem decode_commandWord (op sub : BitVec 4) (a : Addr) (d : Byte) :
    decode (commandWord op sub a d) = decodeFields op sub a d := by
  rw [decode, opField_commandWord, subField_commandWord, aField_commandWord, dField_commandWord]

theorem decode_readOp {target : BusTarget} {a : Addr} (h : selectTarget a = target) :
    decode (commandWord 0 0 a 0) = .ok (readOp target a) := by
  rw [Machine.decode_busRead, decodeRead_eq, h]

theorem decode_writeOp {target : BusTarget} {a : Addr} (h : selectTarget a = target) (b : Byte) :
    decode (commandWord 1 0 a b) = .ok (writeOp target a b) := by
  rw [Machine.decode_busWrite, decodeWrite_eq, h]

/-- Settles O1, instruction by instruction: a bus operation's address selects it, and every other operand is read back
from the field that carries it. -/
theorem decodeInvertsEncode : Obligations.DecodeInvertsEncode := by
  intro i wf
  cases i with
  | rdRam a => exact decode_readOp ((selectTarget_ram a).mpr wf)
  | wrRam a b => exact decode_writeOp ((selectTarget_ram a).mpr wf) b
  | rdPpuctrl a => exact decode_readOp ((selectTarget_reg 0 a).mpr wf)
  | wrPpuctrl a b => exact decode_writeOp ((selectTarget_reg 0 a).mpr wf) b
  | rdPpumask a => exact decode_readOp ((selectTarget_reg 1 a).mpr wf)
  | wrPpumask a b => exact decode_writeOp ((selectTarget_reg 1 a).mpr wf) b
  | rdPpustatus a => exact decode_readOp ((selectTarget_reg 2 a).mpr wf)
  | wrPpustatus a b => exact decode_writeOp ((selectTarget_reg 2 a).mpr wf) b
  | rdOamaddr a => exact decode_readOp ((selectTarget_reg 3 a).mpr wf)
  | wrOamaddr a b => exact decode_writeOp ((selectTarget_reg 3 a).mpr wf) b
  | rdOamdata a => exact decode_readOp ((selectTarget_reg 4 a).mpr wf)
  | wrOamdata a b => exact decode_writeOp ((selectTarget_reg 4 a).mpr wf) b
  | rdPpuscroll a => exact decode_readOp ((selectTarget_reg 5 a).mpr wf)
  | wrPpuscroll a b => exact decode_writeOp ((selectTarget_reg 5 a).mpr wf) b
  | rdPpuaddr a => exact decode_readOp ((selectTarget_reg 6 a).mpr wf)
  | wrPpuaddr a b => exact decode_writeOp ((selectTarget_reg 6 a).mpr wf) b
  | rdPpudata a => exact decode_readOp ((selectTarget_reg 7 a).mpr wf)
  | wrPpudata a b => exact decode_writeOp ((selectTarget_reg 7 a).mpr wf) b
  | rdOamdma => exact decode_readOp ((selectTarget_oamDma _).mpr rfl)
  | wrOamdma p => exact decode_writeOp ((selectTarget_oamDma _).mpr rfl) p
  | rdInput => exact decode_readOp ((selectTarget_input _).mpr rfl)
  | wrInput b => exact decode_writeOp ((selectTarget_input _).mpr rfl) b
  | rdUnmapped a => exact decode_readOp ((selectTarget_unmapped a).mpr wf)
  | wrUnmapped a b => exact decode_writeOp ((selectTarget_unmapped a).mpr wf) b
  | rdPrg a => exact decode_readOp ((selectTarget_prg a).mpr wf)
  | wrPrg a b => exact decode_writeOp ((selectTarget_prg a).mpr wf) b
  | tick n =>
    have fits : (BitVec.ofNat 16 n).toNat = n := Nat.mod_eq_of_lt (of_decide_eq_true wf)
    rw [encode, decode_commandWord]
    show Except.ok (Instr.tick (BitVec.ofNat 16 n).toNat) = .ok (.tick n)
    rw [fits]
  | rendSecoamWr | qOam | qSecoam | qReg =>
    rw [encode, decode_commandWord]
    simp [decodeFields, decodeRend, whenUnusedZero]
  | ppuRegRd | ppuRegWr =>
    rw [encode, decode_commandWord]
    simp [decodeFields, decodePpu, whenUnusedZero]
  | srIncX | srIncY | srSetH | srSetV | srRaw | srBump1 | srBump32 | srSetRaw =>
    rw [encode, decode_commandWord]
    simp [decodeFields, decodeSr, whenUnusedZero]
  | fsSetPixel c =>
    have joined : c.extractLsb' 8 16 ++ c.extractLsb' 0 8 = c :=
      (BitVec.extractLsb'_append_extractLsb'_eq_extractLsb' rfl).trans BitVec.extractLsb'_eq_self
    rw [encode, decode_commandWord]
    exact congrArg (fun x => Except.ok (Instr.fsSetPixel x)) joined
  | _ => rfl

/-! ### The words that spell nothing (R117) -/

theorem plainOps_assigned : ∀ x ∈ plainOps, ∀ d, Assigned x.1 x.2.1 d := by
  simp [plainOps, Assigned]

theorem targetOps_assigned : ∀ x ∈ targetOps, ∀ d, Assigned 7 x.1 d := by
  simp [targetOps, Assigned]

theorem Spells.assigned {a : Addr} {d : Byte} {op sub : BitVec 4} {c : Bool} {i : Instr}
    (h : Spells a d op sub c i) : Assigned op sub d := by
  cases h with
  | plain h => exact plainOps_assigned _ h d
  | target h => exact targetOps_assigned _ h d
  | bump1 h => simp [Assigned, h]
  | bump32 h => simp [Assigned, h]
  | _ => simp [Assigned]

theorem decodeFields_of_not_assigned {op sub : BitVec 4} {d : Byte} (h : ¬Assigned op sub d) (a : Addr) :
    decodeFields op sub a d = .error (refusal op sub d) := by
  have decoded := decodeFields_decoded op sub a d
  generalize decodeFields op sub a d = r at decoded
  cases decoded with
  | spelled spells => exact absurd spells.assigned h
  | refused _ => rfl

/-- The unused high part of a field is 0 when the field is below the bound of its used part. -/
theorem extractLsb'_high_beq_zero {n len : Nat} (hn : n + len = 16) (a : Addr) :
    (a.extractLsb' n len == 0) = decide (a.toNat < 2 ^ n) := by
  have bound : a.toNat < 2 ^ n * 2 ^ len := by
    rw [← Nat.pow_add, hn]
    exact a.isLt
  refine decide_eq_decide.mpr ?_
  rw [← BitVec.toNat_inj, BitVec.extractLsb'_toNat, Nat.shiftRight_eq_div_pow,
    Nat.mod_eq_of_lt (Nat.div_lt_of_lt_mul bound)]
  exact Nat.div_eq_zero_iff_lt (Nat.two_pow_pos n)

theorem extractLsb'_low_beq_zero (a : Addr) : (a.extractLsb' 0 15 == 0) = decide (a.toNat % 0x8000 = 0) := by
  refine decide_eq_decide.mpr ?_
  rw [← BitVec.toNat_inj, BitVec.extractLsb'_toNat, Nat.shiftRight_zero]
  rfl

theorem whenUnusedZero_of_false {c : Bool} (h : c = false) (op sub : BitVec 4) (i : Instr) :
    whenUnusedZero c op sub i = .error (.unusedField op sub) := by
  rw [whenUnusedZero, h]
  rfl

theorem decodeFields_plain (a : Addr) (d : Byte) :
    ∀ x ∈ plainOps, decodeFields x.1 x.2.1 a d = whenUnusedZero (a == 0 && d == 0) x.1 x.2.1 x.2.2 := by
  intro x member
  fin_cases member <;> rfl

theorem decodeFields_target (a : Addr) (d : Byte) :
    ∀ x ∈ targetOps, decodeFields 7 x.1 a d =
      whenUnusedZero (a.extractLsb' 0 15 == 0 && d == 0) 7 x.1 (x.2 (decodeTarget a)) := by
  intro x member
  fin_cases member <;> rfl

theorem exists_plainOp : ∀ op sub : BitVec 4,
    (op = 3 ∧ sub.toNat ≤ 6 ∨ op = 4 ∧ (sub = 1 ∨ sub = 2) ∨ op = 5 ∧ (sub.toNat ≤ 3 ∨ sub = 8 ∨ sub = 9) ∨
      op = 6 ∧ sub = 0) → ∃ x ∈ plainOps, x.1 = op ∧ x.2.1 = sub := by
  decide

theorem exists_targetOp : ∀ sub : BitVec 4, (sub.toNat ≤ 3 ∨ sub = 5) → ∃ x ∈ targetOps, x.1 = sub := by
  decide

/-- Settles O4: a word whose `op`, `sub` and, for a bump, `d` are not assigned is refused for that, and one that is
assigned for what it does not use. -/
theorem unspelledWordsAreRefusedByReason : Obligations.UnspelledWordsAreRefusedByReason := by
  intro w
  unfold decode
  generalize opField w = op, subField w = sub, aField w = a, dField w = d
  refine ⟨fun reserved => ?_, ?_, ?_, fun reserved => ?_, ?_, ?_, ?_, ?_⟩
  · rw [decodeFields_of_not_assigned (by grind [Assigned]), refusal, if_pos reserved]
  · rintro rfl nmi irq
    exact decodeFields_of_not_assigned (by grind [Assigned]) a
  · rintro rfl rfl h1 h32
    exact decodeFields_of_not_assigned (by grind [Assigned]) a
  · rw [decodeFields_of_not_assigned (by grind [Assigned])]
    grind [refusal]
  · rintro ⟨key, used⟩
    obtain rfl | rfl | rfl | rfl : op = 0 ∨ op = 1 ∨ op = 2 ∨ op = 8 := by bv_omega
    all_goals exact whenUnusedZero_of_false (by grind) ..
  · rintro ⟨rfl | rfl, used⟩
    all_goals exact whenUnusedZero_of_false (by grind) ..
  · rintro ⟨key, used⟩
    obtain ⟨x, member, rfl, rfl⟩ := exists_plainOp op sub key
    rw [decodeFields_plain a d x member]
    exact whenUnusedZero_of_false (by grind) ..
  · rintro (⟨rfl, ⟨rfl, used⟩ | ⟨rfl, used⟩ | ⟨rfl, used⟩ | ⟨rfl, used⟩⟩ | ⟨rfl, ⟨rfl, used⟩ | ⟨rfl, used⟩⟩ |
      ⟨rfl, scroll⟩)
    iterate 6
      · refine whenUnusedZero_of_false ?_ ..
        rw [extractLsb'_high_beq_zero rfl]
        grind
    obtain ⟨key, used⟩ | ⟨rfl, amount, used⟩ | ⟨rfl, used⟩ := scroll
    · obtain ⟨x, member, rfl⟩ := exists_targetOp sub key
      rw [decodeFields_target a d x member]
      exact whenUnusedZero_of_false (by rw [extractLsb'_low_beq_zero]; grind) ..
    · obtain rfl | rfl := amount
      all_goals exact whenUnusedZero_of_false ((extractLsb'_low_beq_zero a).trans (decide_eq_false used)) ..
    · exact whenUnusedZero_of_false (beq_false_of_ne used) ..

/-! ### The words the spec lists -/

/-- Settles O5: each of the eight words is decoded by evaluation. -/
theorem wordsOfTheSpecDecode : Obligations.WordsOfTheSpecDecode :=
  ⟨rfl, rfl, rfl, rfl, rfl, rfl, rfl, rfl⟩

end Sys2Proof
end

section
/-! The opcode table (30_encoding.md R118): its rows field by field, the rows of each `op` and `sub`, and the address
blocks behind the rows of the bus operations. -/

namespace Sys2Proof

/-! ### A row, field by field -/

/-- The rows of the table with the given `op` and `sub`. -/
def rowsOf (op sub : BitVec 4) : List OpcodeRow :=
  opcodeRows.filter fun r => opField r.pattern == op && subField r.pattern == sub

/-- The rest of a row's match: the fields `a` and `d`. -/
def operandsMatch (a : Addr) (d : Byte) (r : OpcodeRow) : Bool :=
  a &&& aField r.mask == aField r.pattern && d &&& dField r.mask == dField r.pattern

/-- The row of the given mnemonic that compares all of `op` and `sub`, and `a` and `d` under their masks. -/
def fieldRow (name : String) (op sub : BitVec 4) (a aMask : Addr) (d dMask : Byte) : OpcodeRow :=
  ⟨name, commandWord op sub a d, commandWord 15 15 aMask dMask⟩

theorem commandWord_inj {op op' sub sub' : BitVec 4} {a a' : Addr} {d d' : Byte} :
    commandWord op sub a d = commandWord op' sub' a' d' ↔ op = op' ∧ sub = sub' ∧ a = a' ∧ d = d' := by
  constructor
  · intro h
    have hop := congrArg opField h
    have hsub := congrArg subField h
    have ha := congrArg aField h
    have hd := congrArg dField h
    simp only [opField_commandWord, subField_commandWord, aField_commandWord, dField_commandWord] at hop hsub ha hd
    exact ⟨hop, hsub, ha, hd⟩
  · rintro ⟨rfl, rfl, rfl, rfl⟩
    rfl

theorem commandWord_and (op op' sub sub' : BitVec 4) (a a' : Addr) (d d' : Byte) :
    commandWord op sub a d &&& commandWord op' sub' a' d' =
      commandWord (op &&& op') (sub &&& sub') (a &&& a') (d &&& d') := by
  have high : (op ++ sub) &&& (op' ++ sub') = (op &&& op') ++ (sub &&& sub') := BitVec.and_append
  have middle : (op ++ sub ++ a) &&& (op' ++ sub' ++ a') = ((op ++ sub) &&& (op' ++ sub')) ++ (a &&& a') :=
    BitVec.and_append
  have low : commandWord op sub a d &&& commandWord op' sub' a' d' =
      ((op ++ sub ++ a) &&& (op' ++ sub' ++ a')) ++ (d &&& d') := BitVec.and_append
  rw [low, middle, high, commandWord]

/-- Every row compares all of `op` and `sub`. -/
theorem opcodeRows_mask : ∀ r ∈ opcodeRows, opField r.mask = 15 ∧ subField r.mask = 15 := by
  decide

theorem rowMatches_eq {r : OpcodeRow} (h : r ∈ opcodeRows) (op sub : BitVec 4) (a : Addr) (d : Byte) :
    rowMatches (commandWord op sub a d) r =
      (operandsMatch a d r && (opField r.pattern == op && subField r.pattern == sub)) := by
  obtain ⟨hop, hsub⟩ := opcodeRows_mask r h
  rw [rowMatches, operandsMatch, ← commandWord_fields r.mask, ← commandWord_fields r.pattern, commandWord_and,
    Bool.eq_iff_iff]
  simp only [beq_iff_eq, Bool.and_eq_true, commandWord_inj, hop, hsub, opField_commandWord, subField_commandWord,
    aField_commandWord, dField_commandWord]
  have all (x : BitVec 4) : x &&& 15 = x := BitVec.and_allOnes
  rw [all, all]
  tauto

theorem filter_rowMatches (op sub : BitVec 4) (a : Addr) (d : Byte) :
    opcodeRows.filter (rowMatches (commandWord op sub a d)) = (rowsOf op sub).filter (operandsMatch a d) := by
  rw [rowsOf, List.filter_filter]
  exact List.filter_congr fun r h => rowMatches_eq h op sub a d

theorem operandsMatch_fieldRow (name : String) (op sub : BitVec 4) (a x aMask : Addr) (d y dMask : Byte) :
    operandsMatch a d (fieldRow name op sub x aMask y dMask) = (a &&& aMask == x && d &&& dMask == y) := by
  rw [operandsMatch, fieldRow, aField_commandWord, aField_commandWord, dField_commandWord, dField_commandWord]

/-- The mnemonics of the rows of one `op` and `sub` that match the other two fields. -/
def selected (op sub : BitVec 4) (a : Addr) (d : Byte) : List String :=
  ((rowsOf op sub).filter (operandsMatch a d)).map OpcodeRow.mnemonic

theorem selected_of_single {op sub : BitVec 4} {name : String} {x aMask : Addr} {y dMask : Byte}
    (rows : rowsOf op sub = [fieldRow name op sub x aMask y dMask]) (a : Addr) (d : Byte) :
    selected op sub a d = if a &&& aMask == x && d &&& dMask == y then [name] else [] := by
  rw [selected, rows, List.filter_singleton, operandsMatch_fieldRow]
  cases a &&& aMask == x && d &&& dMask == y <;> rfl

theorem rowsOf_plainOps :
    ∀ x ∈ plainOps, rowsOf x.1 x.2.1 = [fieldRow (mnemonic x.2.2) x.1 x.2.1 0 0xFFFF 0 0xFF] := by
  decide

theorem rowsOf_targetOps (r : ScrollTarget) :
    ∀ x ∈ targetOps, rowsOf 7 x.1 = [fieldRow (mnemonic (x.2 r)) 7 x.1 0 0x7FFF 0 0xFF] := by
  cases r <;> decide

/-! ### The address blocks of the bus rows (R93, R94) -/

/-- The targets of the bus decode by blocks of addresses, in the table's order: target, `a` of the pattern and of the
mask. -/
def targetBlocks : List (BusTarget × Addr × Addr) :=
  [(.ram, 0x0000, 0xE000), (.reg 0, 0x2000, 0xE007), (.reg 1, 0x2001, 0xE007), (.reg 2, 0x2002, 0xE007),
   (.reg 3, 0x2003, 0xE007), (.reg 4, 0x2004, 0xE007), (.reg 5, 0x2005, 0xE007), (.reg 6, 0x2006, 0xE007),
   (.reg 7, 0x2007, 0xE007), (.oamDma, 0x4014, 0xFFFF), (.input, 0x4016, 0xFFFF), (.unmapped, 0x4000, 0xFFF0),
   (.unmapped, 0x4010, 0xFFFC), (.unmapped, 0x4015, 0xFFFF), (.unmapped, 0x4017, 0xFFFF), (.unmapped, 0x4018, 0xFFF8),
   (.prg, 0x4020, 0xFFE0), (.prg, 0x4040, 0xFFC0), (.prg, 0x4080, 0xFF80), (.prg, 0x4100, 0xFF00),
   (.prg, 0x4200, 0xFE00), (.prg, 0x4400, 0xFC00), (.prg, 0x4800, 0xF800), (.prg, 0x5000, 0xF000),
   (.prg, 0x6000, 0xE000), (.prg, 0x8000, 0x8000)]

/-- The address lies in the block. -/
def inBlock (a : Addr) (x : BusTarget × Addr × Addr) : Bool := a &&& x.2.2 == x.2.1

theorem readRows_eq : rowsOf 0 0 =
    targetBlocks.map fun x => fieldRow (mnemonic (readOp x.1 0)) 0 0 x.2.1 x.2.2 0 0xFF := by
  decide

theorem writeRows_eq : rowsOf 1 0 =
    targetBlocks.map fun x => fieldRow (mnemonic (writeOp x.1 0 0)) 1 0 x.2.1 x.2.2 0 0 := by
  decide

theorem targetBlocks_disjoint : targetBlocks.Pairwise fun x y => x.2.1 &&& y.2.2 ≠ y.2.1 &&& x.2.2 := by
  decide

theorem inBlock_unique {a : Addr} {x y : BusTarget × Addr × Addr} (hx : inBlock a x = true) (hy : inBlock a y = true) :
    x.2.1 &&& y.2.2 = y.2.1 &&& x.2.2 := by
  rw [← beq_iff_eq.mp hx, ← beq_iff_eq.mp hy, BitVec.and_assoc, BitVec.and_assoc, BitVec.and_comm x.2.2]

/-- In a list whose entries exclude each other, the filter that keeps one of them keeps it alone. -/
theorem filter_eq_singleton {α : Type} {p : α → Bool} {l : List α}
    (disjoint : l.Pairwise fun x y => ¬(p x = true ∧ p y = true)) {x : α} (member : x ∈ l) (holds : p x = true) :
    l.filter p = [x] := by
  induction l with
  | nil => cases member
  | cons y rest ih =>
    obtain ⟨first, others⟩ := List.pairwise_cons.mp disjoint
    obtain rfl | member := List.mem_cons.mp member
    · rw [List.filter_cons_of_pos holds, List.filter_eq_nil_iff.mpr fun z hz both => first z hz ⟨holds, both⟩]
    · rw [List.filter_cons_of_neg fun both => first x member ⟨both, holds⟩, ih others member]

theorem and_allOnes_shiftLeft_toNat (a : Addr) (k : Nat) :
    (a &&& (BitVec.allOnes 16 <<< k)).toNat = a.toNat / 2 ^ k * 2 ^ k := by
  have shifted : a &&& (BitVec.allOnes 16 <<< k) = (a >>> k) <<< k := by
    refine BitVec.eq_of_getLsbD_eq fun j hj => ?_
    rw [BitVec.getLsbD_and, BitVec.getLsbD_shiftLeft, BitVec.getLsbD_shiftLeft, BitVec.getLsbD_ushiftRight,
      BitVec.getLsbD_allOnes]
    by_cases low : j < k
    · simp [low]
    · simp [low, show j - k < 16 by omega, show k + (j - k) = j by omega, hj]
  have bound : a.toNat / 2 ^ k * 2 ^ k < 2 ^ 16 := (Nat.div_mul_le_self _ _).trans_lt a.isLt
  rw [shifted, BitVec.toNat_shiftLeft, BitVec.toNat_ushiftRight, Nat.shiftRight_eq_div_pow, Nat.shiftLeft_eq,
    Nat.mod_eq_of_lt bound]

/-- A block of a target that ignores the low `k` bits holds the addresses that agree with its pattern above them. -/
theorem exists_block_of_div {a : Addr} {target : BusTarget} (k : Nat) (p : Addr)
    (member : (target, p, BitVec.allOnes 16 <<< k) ∈ targetBlocks) (here : a.toNat / 2 ^ k * 2 ^ k = p.toNat) :
    ∃ x ∈ targetBlocks, inBlock a x = true ∧ x.1 = target := by
  refine ⟨_, member, beq_iff_eq.mpr ?_, rfl⟩
  rw [← BitVec.toNat_inj, and_allOnes_shiftLeft_toNat, here]

theorem exists_ramBlock {a : Addr} (h : addrIsRam a = true) : ∃ x ∈ targetBlocks, inBlock a x = true ∧ x.1 = .ram := by
  have high : a.toNat ≤ 0x1FFF := of_decide_eq_true h
  exact exists_block_of_div 13 0x0000 (by decide) (by simp; omega)

theorem exists_regBlock {a : Addr} {j : BitVec 3} (h : addrIsReg j a = true) :
    ∃ x ∈ targetBlocks, inBlock a x = true ∧ x.1 = .reg j := by
  have member : (.reg j, 0x2000 ||| j.setWidth 16, 0xE007) ∈ targetBlocks := by
    clear h
    revert j
    decide
  exact ⟨_, member, h, rfl⟩

theorem exists_unmappedBlock {a : Addr} (h : addrIsUnmapped a = true) :
    ∃ x ∈ targetBlocks, inBlock a x = true ∧ x.1 = .unmapped := by
  have range : (0x4000 ≤ a.toNat ∧ a.toNat ≤ 0x4013 ∨ a.toNat = 0x4015) ∨ 0x4017 ≤ a.toNat ∧ a.toNat ≤ 0x401F := by
    simpa [addrIsUnmapped, BitVec.le_def, ← BitVec.toNat_inj] using h
  obtain h | h | h | h | h : a.toNat / 16 = 0x400 ∨ a.toNat / 4 = 0x1004 ∨ a.toNat = 0x4015 ∨ a.toNat = 0x4017 ∨
    a.toNat / 8 = 0x803 := by omega
  · exact exists_block_of_div 4 0x4000 (by decide) (by simp [h])
  · exact exists_block_of_div 2 0x4010 (by decide) (by simp [h])
  · exact exists_block_of_div 0 0x4015 (by decide) (by simp [h])
  · exact exists_block_of_div 0 0x4017 (by decide) (by simp [h])
  · exact exists_block_of_div 3 0x4018 (by decide) (by simp [h])

theorem exists_prgBlock {a : Addr} (h : addrIsPrg a = true) : ∃ x ∈ targetBlocks, inBlock a x = true ∧ x.1 = .prg := by
  have low : 0x4020 ≤ a.toNat := of_decide_eq_true h
  have high := a.isLt
  obtain h | h | h | h | h | h | h | h | h | h : a.toNat / 32 = 0x201 ∨ a.toNat / 64 = 0x101 ∨ a.toNat / 128 = 0x81 ∨
    a.toNat / 256 = 0x41 ∨ a.toNat / 512 = 0x21 ∨ a.toNat / 1024 = 0x11 ∨ a.toNat / 2048 = 9 ∨ a.toNat / 4096 = 5 ∨
    a.toNat / 8192 = 3 ∨ a.toNat / 32768 = 1 := by omega
  · exact exists_block_of_div 5 0x4020 (by decide) (by simp [h])
  · exact exists_block_of_div 6 0x4040 (by decide) (by simp [h])
  · exact exists_block_of_div 7 0x4080 (by decide) (by simp [h])
  · exact exists_block_of_div 8 0x4100 (by decide) (by simp [h])
  · exact exists_block_of_div 9 0x4200 (by decide) (by simp [h])
  · exact exists_block_of_div 10 0x4400 (by decide) (by simp [h])
  · exact exists_block_of_div 11 0x4800 (by decide) (by simp [h])
  · exact exists_block_of_div 12 0x5000 (by decide) (by simp [h])
  · exact exists_block_of_div 13 0x6000 (by decide) (by simp [h])
  · exact exists_block_of_div 15 0x8000 (by decide) (by simp [h])

theorem exists_block (a : Addr) : ∃ x ∈ targetBlocks, inBlock a x = true ∧ x.1 = selectTarget a := by
  cases select : selectTarget a with
  | ram => exact exists_ramBlock ((selectTarget_ram a).mp select)
  | reg j => exact exists_regBlock ((selectTarget_reg j a).mp select)
  | oamDma =>
    rw [(selectTarget_oamDma a).mp select]
    decide
  | input =>
    rw [(selectTarget_input a).mp select]
    decide
  | unmapped => exact exists_unmappedBlock ((selectTarget_unmapped a).mp select)
  | prg => exact exists_prgBlock ((selectTarget_prg a).mp select)

/-- Every address lies in exactly one block, one of the target it selects. -/
theorem filter_inBlock (a : Addr) : ∃ x, targetBlocks.filter (inBlock a) = [x] ∧ x.1 = selectTarget a := by
  obtain ⟨x, member, here, target⟩ := exists_block a
  exact ⟨x, filter_eq_singleton (targetBlocks_disjoint.imp fun apart both => apart (inBlock_unique both.1 both.2))
    member here, target⟩

/-! ### The rows a spelled operation's fields select -/

theorem mnemonic_readOp (target : BusTarget) (a x : Addr) :
    mnemonic (readOp target a) = mnemonic (readOp target x) := by
  cases target with
  | reg j =>
    obtain ⟨n, hn⟩ := j
    interval_cases n <;> rfl
  | _ => rfl

theorem mnemonic_writeOp (target : BusTarget) (a x : Addr) (b y : Byte) :
    mnemonic (writeOp target a b) = mnemonic (writeOp target x y) := by
  cases target with
  | reg j =>
    obtain ⟨n, hn⟩ := j
    interval_cases n <;> rfl
  | _ => rfl

theorem selected_of_blocks {op : BitVec 4} {name : BusTarget → String} {dMask : Byte}
    (rows : rowsOf op 0 = targetBlocks.map fun x => fieldRow (name x.1) op 0 x.2.1 x.2.2 0 dMask)
    (a : Addr) (d : Byte) :
    selected op 0 a d = if d &&& dMask == 0 then [name (selectTarget a)] else [] := by
  obtain ⟨x, blocks, target⟩ := filter_inBlock a
  have matching : (operandsMatch a d ∘ fun x => fieldRow (name x.1) op 0 x.2.1 x.2.2 0 dMask) =
      fun x => inBlock a x && d &&& dMask == 0 :=
    funext fun x => operandsMatch_fieldRow ..
  rw [selected, rows, List.filter_map, matching]
  cases d &&& dMask == 0
  · simp
  · simp [blocks, ← target, fieldRow]

/-- Only the classes that use `sub` have rows with `sub` other than 0. -/
theorem opcodeRows_sub : ∀ r ∈ opcodeRows,
    opField r.pattern = 0 ∨ opField r.pattern = 1 ∨ opField r.pattern = 2 ∨ opField r.pattern = 8 →
      subField r.pattern = 0 := by
  decide

theorem selected_of_sub_ne_zero {op sub : BitVec 4} (hop : op = 0 ∨ op = 1 ∨ op = 2 ∨ op = 8) (h : sub ≠ 0) (a : Addr)
    (d : Byte) : selected op sub a d = [] := by
  have noRow : rowsOf op sub = [] := by
    refine List.filter_eq_nil_iff.mpr fun r member key => h ?_
    obtain ⟨rfl, rfl⟩ : opField r.pattern = op ∧ subField r.pattern = sub := by simpa using key
    exact opcodeRows_sub r member hop
  rw [selected, noRow]
  rfl

theorem and_fullMask (a : Addr) : a &&& 0xFFFF = a := BitVec.and_allOnes

theorem and_emptyMask (a : Addr) : a &&& 0 = 0 := BitVec.and_zero

theorem and_fullByteMask (d : Byte) : d &&& 0xFF = d := BitVec.and_allOnes

/-- A mask of the high bits compares the unused high part of a field with 0. -/
theorem and_highMask_beq_zero {n len : Nat} (hn : n + len = 16) (a : Addr) :
    (a &&& (BitVec.allOnes 16 <<< n) == 0) = (a.extractLsb' n len == 0) := by
  rw [extractLsb'_high_beq_zero hn]
  refine decide_eq_decide.mpr ?_
  rw [← BitVec.toNat_inj, and_allOnes_shiftLeft_toNat]
  simp [Nat.div_eq_zero_iff]

theorem and_lowMask_beq_zero (a : Addr) : (a &&& 0x7FFF == 0) = (a.extractLsb' 0 15 == 0) := by
  rw [extractLsb'_low_beq_zero]
  refine decide_eq_decide.mpr ?_
  rw [← BitVec.toNat_inj, BitVec.toNat_and]
  exact Eq.congr_left (Nat.and_two_pow_sub_one_eq_mod a.toNat 15)

theorem rowsOf_bump : rowsOf 7 4 =
    [fieldRow "SR_BUMP_1" 7 4 0 0x7FFF 1 0xFF, fieldRow "SR_BUMP_32" 7 4 0 0x7FFF 32 0xFF] := by
  decide

theorem selected_bump (a : Addr) (d : Byte) :
    selected 7 4 a d =
      if a.extractLsb' 0 15 == 0 then if d = 1 then ["SR_BUMP_1"] else if d = 32 then ["SR_BUMP_32"] else []
      else [] := by
  have match1 := operandsMatch_fieldRow "SR_BUMP_1" 7 4 a 0 0x7FFF d 1 0xFF
  have match32 := operandsMatch_fieldRow "SR_BUMP_32" 7 4 a 0 0x7FFF d 32 0xFF
  rw [and_lowMask_beq_zero, and_fullByteMask] at match1 match32
  rw [selected, rowsOf_bump, List.filter_cons, List.filter_singleton, match1, match32]
  cases a.extractLsb' 0 15 == 0
  · rfl
  · by_cases h1 : d = 1
    · rw [h1]; rfl
    · by_cases h32 : d = 32
      · rw [h32]; rfl
      · simp only [Bool.true_and, beq_false_of_ne h1, beq_false_of_ne h32, h1, h32, if_true, if_false]
        rfl

theorem Spells.selected {a : Addr} {d : Byte} {op sub : BitVec 4} {c : Bool} {i : Instr}
    (h : Spells a d op sub c i) : selected op sub a d = if c then [mnemonic i] else [] := by
  cases h with
  | busRead =>
    by_cases hsub : sub = 0
    · rw [hsub, selected_of_blocks (name := fun x => mnemonic (readOp x 0)) readRows_eq, and_fullByteMask,
        decodeRead_eq, mnemonic_readOp _ a 0]
      rfl
    · rw [selected_of_sub_ne_zero (by decide) hsub, beq_false_of_ne hsub]
      rfl
  | busWrite =>
    by_cases hsub : sub = 0
    · rw [hsub, selected_of_blocks (name := fun x => mnemonic (writeOp x 0 0)) writeRows_eq, decodeWrite_eq,
        mnemonic_writeOp _ a 0 d 0]
      simp
    · rw [selected_of_sub_ne_zero (by decide) hsub, beq_false_of_ne hsub]
      rfl
  | tick =>
    by_cases hsub : sub = 0
    · have rows : rowsOf 2 0 = [fieldRow "TICK" 2 0 0 0 0 0xFF] := by decide
      rw [hsub, selected_of_single rows, and_fullByteMask, and_emptyMask]
      rfl
    · rw [selected_of_sub_ne_zero (by decide) hsub, beq_false_of_ne hsub]
      rfl
  | plain h => rw [selected_of_single (rowsOf_plainOps _ h), and_fullMask, and_fullByteMask]
  | secoamWr =>
    have rows : rowsOf 5 4 = [fieldRow "REND_SECOAM_WR" 5 4 0 (BitVec.allOnes 16 <<< 5) 0 0] := by decide
    rw [selected_of_single rows, and_highMask_beq_zero (len := 11) rfl]
    simp [mnemonic]
  | qOam =>
    have rows : rowsOf 5 10 = [fieldRow "Q_OAM" 5 10 0 (BitVec.allOnes 16 <<< 8) 0 0xFF] := by decide
    rw [selected_of_single rows, and_highMask_beq_zero (len := 8) rfl, and_fullByteMask]
    rfl
  | qSecoam =>
    have rows : rowsOf 5 11 = [fieldRow "Q_SECOAM" 5 11 0 (BitVec.allOnes 16 <<< 5) 0 0xFF] := by decide
    rw [selected_of_single rows, and_highMask_beq_zero (len := 11) rfl, and_fullByteMask]
    rfl
  | qReg =>
    have rows : rowsOf 5 12 = [fieldRow "Q_REG" 5 12 0 (BitVec.allOnes 16 <<< 3) 0 0xFF] := by decide
    rw [selected_of_single rows, and_highMask_beq_zero (len := 13) rfl, and_fullByteMask]
    rfl
  | regRd =>
    have rows : rowsOf 6 1 = [fieldRow "PPU_REG_RD" 6 1 0 (BitVec.allOnes 16 <<< 3) 0 0xFF] := by decide
    rw [selected_of_single rows, and_highMask_beq_zero (len := 13) rfl, and_fullByteMask]
    rfl
  | regWr =>
    have rows : rowsOf 6 2 = [fieldRow "PPU_REG_WR" 6 2 0 (BitVec.allOnes 16 <<< 3) 0 0] := by decide
    rw [selected_of_single rows, and_highMask_beq_zero (len := 13) rfl]
    simp [mnemonic]
  | target h =>
    rw [selected_of_single (rowsOf_targetOps (decodeTarget a) _ h), and_lowMask_beq_zero, and_fullByteMask]
  | bump1 h =>
    rw [selected_bump, if_pos h]
    rfl
  | bump32 h =>
    rw [selected_bump, h]
    rfl
  | setRaw =>
    have rows : rowsOf 7 6 = [fieldRow "SR_SET_RAW" 7 6 0 0 0 0xFF] := by decide
    rw [selected_of_single rows, and_fullByteMask, and_emptyMask]
    rfl
  | setPixel =>
    by_cases hsub : sub = 0
    · have rows : rowsOf 8 0 = [fieldRow "FS_SET_PIXEL" 8 0 0 0 0 0] := by decide
      rw [hsub, selected_of_single rows]
      simp [mnemonic]
    · rw [selected_of_sub_ne_zero (by decide) hsub, beq_false_of_ne hsub]
      rfl

/-! ### The rows of the words that spell nothing -/

theorem Assigned.of_not_bump {op sub : BitVec 4} {d x : Byte} (h : Assigned op sub x) (other : ¬(op = 7 ∧ sub = 4)) :
    Assigned op sub d := by
  grind [Assigned]

/-- Every row has an assigned `op` and `sub`, and those of a bump compare all of `d`. -/
theorem opcodeRows_assigned : ∀ r ∈ opcodeRows, Assigned (opField r.pattern) (subField r.pattern) (dField r.pattern) ∧
    (opField r.pattern = 7 ∧ subField r.pattern = 4 → dField r.mask = 0xFF) := by
  unfold Assigned
  decide

theorem selected_of_not_assigned {op sub : BitVec 4} {d : Byte} (h : ¬Assigned op sub d) (a : Addr) :
    selected op sub a d = [] := by
  have noRow : (rowsOf op sub).filter (operandsMatch a d) = [] := by
    refine List.filter_eq_nil_iff.mpr fun r inRows operands => h ?_
    obtain ⟨member, key⟩ := List.mem_filter.mp inRows
    obtain ⟨rfl, rfl⟩ : opField r.pattern = op ∧ subField r.pattern = sub := by simpa using key
    obtain ⟨assigned, wholeD⟩ := opcodeRows_assigned r member
    by_cases bump : opField r.pattern = 7 ∧ subField r.pattern = 4
    · obtain ⟨-, sameD⟩ : _ ∧ d &&& dField r.mask = dField r.pattern := by simpa [operandsMatch] using operands
      rw [wholeD bump, and_fullByteMask] at sameD
      rwa [sameD]
    · exact assigned.of_not_bump bump
  rw [selected, noRow]
  rfl

theorem selected_eq_decodeFields (op sub : BitVec 4) (a : Addr) (d : Byte) :
    selected op sub a d = match decodeFields op sub a d with
      | .ok i => [mnemonic i]
      | .error _ => [] := by
  have decoded := decodeFields_decoded op sub a d
  generalize decodeFields op sub a d = r at decoded
  cases decoded with
  | @spelled c i spells =>
    rw [spells.selected]
    cases c <;> rfl
  | refused unassigned => exact selected_of_not_assigned unassigned a

/-- Settles O3: the rows of a word's `op` and `sub` that match its `a` and `d` are the row of what the fields spell. -/
theorem everyWordSelectsOneRowOrIsRefused : Obligations.EveryWordSelectsOneRowOrIsRefused := by
  intro w
  rw [← commandWord_fields w, filter_rowMatches, decode_commandWord]
  exact selected_eq_decodeFields ..

end Sys2Proof
end

section
/-! One step (30_encoding.md R90) and what an operation can do to the state: one case for each shared operation the
meanings are made of, what each of them leaves alone, and from the cases who moves each part of the state. -/

namespace Sys2Proof.Machine

/-! ### The step -/

/-- Settles O6: the three branches of a step, by the head of the queue. -/
theorem stepRunsTheDecodedOperation : Obligations.StepRunsTheDecodedOperation := by
  refine ⟨fun s w rest i waiting ok => ?_, fun s idle => ?_, fun s w rest e waiting refused => ?_⟩
  · simp only [step, waiting, ok]
  · simp only [step, idle]
  · simp only [step, waiting, refused]

/-! ### What an operation can do -/

/-- `Effect s i u`: an upper bound on where the operation `i` can end from `s`, but for the reply, with one case for each
shared operation. The cases `quiet` and `scroll` take any operation, for nothing below asks which ones read only or write
a scroll register. -/
inductive Effect (s : State) : Instr → State → Prop where
  | quiet (i : Instr) : Effect s i s
  | wrRam (a : Addr) (b : Byte) : Effect s (.wrRam a b) (s.storeRam (ramIndex a) b)
  | busRead (j : BitVec 3) (a : Addr) : Effect s (regReadOp j a) (ppuRead j s).2
  | directRead (j : BitVec 3) : Effect s (.ppuRegRd j) (ppuRead j s).2
  | busWrite (j : BitVec 3) (a : Addr) (b : Byte) :
      Effect s (regWriteOp j a b) (raiseBus (ppuWrite j b s).1 (ppuWrite j b s).2)
  | directWrite (j : BitVec 3) (b : Byte) : Effect s (.ppuRegWr j b) (ppuWrite j b s).2
  | dma (p : Byte) : Effect s (.wrOamdma p) ((dmaPairs p 256 s).setDmaStall true)
  | rdInput : Effect s .rdInput (s.setInput s.input.ask.2)
  | wrInput (b : Byte) : Effect s (.wrInput b) (s.setInput (s.input.tell b))
  | rdPrg (a : Addr) : Effect s (.rdPrg a) (s.setMapper (s.mapper.ask (.readPrg a)).2)
  | wrPrg (a : Addr) (b : Byte) : Effect s (.wrPrg a b) (s.setMapper (s.mapper.tell (.writePrg a b)))
  | tick (n : Nat) : Effect s (.tick n) (busSteps (3 * n) s)
  | ppuStep : Effect s .ppuStep (s.setPpu (stepPpu s.ppu))
  | reset : Effect s .reset (s.setPpu { s.ppu with writeToggle := false, inVblank := false, scanline := 0, dot := 0 })
  | powerOn : Effect s .powerOn (powerOnState s)
  | intTake : Effect s .intTake (ackBus s)
  | dmaClear : Effect s .dmaClear (s.setDmaStall false)
  | ppuIntAck : Effect s .ppuIntAck (s.setPpu (ackPpu s.ppu))
  | extRaiseNmi : Effect s .extRaiseNmi (raiseBus (some .nmi) s)
  | extRaiseIrq : Effect s .extRaiseIrq (raiseBus (some .irq) s)
  | setS0hit : Effect s .rendSetS0hit (s.setPpu { s.ppu with spriteZeroHit := true })
  | setOvf : Effect s .rendSetOvf (s.setPpu { s.ppu with spriteOverflow := true })
  | secoamWr (j : BitVec 5) (b : Byte) : Effect s (.rendSecoamWr j b) (s.setPpu (s.ppu.storeSecondaryOam j b))
  | scroll (i : Instr) (r : ScrollTarget) (x : Scroll) : Effect s i (s.setPpu (s.ppu.setScroll r x))
  | setPixel (c : Colour) : Effect s (.fsSetPixel c) (s.setSink (s.sink.setPixel c))

/-- Every operation completes, and ends as one of the cases says. -/
theorem exec_effect (i : Instr) (s : State) : ∃ u r, exec i s = .next (u.setReply r) ∧ Effect s i u := by
  cases i with
  | wrRam a b => exact ⟨_, _, rfl, .wrRam a b⟩
  | rdPpuctrl a => exact ⟨_, _, rfl, .busRead 0 a⟩
  | rdPpumask a => exact ⟨_, _, rfl, .busRead 1 a⟩
  | rdPpustatus a => exact ⟨_, _, rfl, .busRead 2 a⟩
  | rdOamaddr a => exact ⟨_, _, rfl, .busRead 3 a⟩
  | rdOamdata a => exact ⟨_, _, rfl, .busRead 4 a⟩
  | rdPpuscroll a => exact ⟨_, _, rfl, .busRead 5 a⟩
  | rdPpuaddr a => exact ⟨_, _, rfl, .busRead 6 a⟩
  | rdPpudata a => exact ⟨_, _, rfl, .busRead 7 a⟩
  | wrPpuctrl a b => exact ⟨_, _, rfl, .busWrite 0 a b⟩
  | wrPpumask a b => exact ⟨_, _, rfl, .busWrite 1 a b⟩
  | wrPpustatus a b => exact ⟨_, _, rfl, .busWrite 2 a b⟩
  | wrOamaddr a b => exact ⟨_, _, rfl, .busWrite 3 a b⟩
  | wrOamdata a b => exact ⟨_, _, rfl, .busWrite 4 a b⟩
  | wrPpuscroll a b => exact ⟨_, _, rfl, .busWrite 5 a b⟩
  | wrPpuaddr a b => exact ⟨_, _, rfl, .busWrite 6 a b⟩
  | wrPpudata a b => exact ⟨_, _, rfl, .busWrite 7 a b⟩
  | wrOamdma p => exact ⟨_, _, rfl, .dma p⟩
  | rdInput => exact ⟨_, _, rfl, .rdInput⟩
  | wrInput b => exact ⟨_, _, rfl, .wrInput b⟩
  | rdPrg a => exact ⟨_, _, rfl, .rdPrg a⟩
  | wrPrg a b => exact ⟨_, _, rfl, .wrPrg a b⟩
  | tick n => exact ⟨_, _, rfl, .tick n⟩
  | reset => exact ⟨_, _, rfl, .reset⟩
  | powerOn => exact ⟨_, _, rfl, .powerOn⟩
  | intTake => exact ⟨_, _, rfl, .intTake⟩
  | dmaClear => exact ⟨_, _, rfl, .dmaClear⟩
  | ppuIntAck => exact ⟨_, _, rfl, .ppuIntAck⟩
  | extRaiseNmi => exact ⟨_, _, rfl, .extRaiseNmi⟩
  | extRaiseIrq => exact ⟨_, _, rfl, .extRaiseIrq⟩
  | rendIncX => exact ⟨_, _, rfl, .scroll _ .v _⟩
  | rendIncY => exact ⟨_, _, rfl, .scroll _ .v _⟩
  | rendSetS0hit => exact ⟨_, _, rfl, .setS0hit⟩
  | rendSetOvf => exact ⟨_, _, rfl, .setOvf⟩
  | rendSecoamWr j b => exact ⟨_, _, rfl, .secoamWr j b⟩
  | ppuStep => exact ⟨_, _, rfl, .ppuStep⟩
  | ppuRegRd j => exact ⟨_, _, rfl, .directRead j⟩
  | ppuRegWr j b => exact ⟨_, _, rfl, .directWrite j b⟩
  | srIncX r | srIncY r | srSetH r | srSetV r | srBump1 r | srBump32 r | srSetRaw r =>
    exact ⟨_, _, rfl, .scroll _ r _⟩
  | fsSetPixel c => exact ⟨_, _, rfl, .setPixel c⟩
  | _ => exact ⟨_, _, rfl, .quiet _⟩

theorem effect_of_exec {i : Instr} {s t : State} (run : exec i s = .next t) :
    ∃ u r, t = u.setReply r ∧ Effect s i u := by
  obtain ⟨u, r, ends, effect⟩ := exec_effect i s
  exact ⟨u, r, Host.Outcome.next.inj (run.symm.trans ends), effect⟩

/-- Settles O8: an operation completes, so a step is refused by the decoder alone. -/
theorem everyOperationCompletes : Obligations.EveryOperationCompletes := by
  refine ⟨fun i s => ?_, fun s f => f.rec, fun s r refused => ?_⟩
  · obtain ⟨u, r, ends, -⟩ := exec_effect i s
    exact ⟨_, ends⟩
  · unfold step at refused
    split at refused
    · cases refused
    · next w rest waiting =>
      split at refused
      · next e unspelled => exact ⟨w, rest, e, waiting, unspelled, (Host.Outcome.refused.inj refused).symm⟩
      · next i _ =>
        obtain ⟨u, r, ends, -⟩ := exec_effect i (s.setCommands rest)
        rw [ends] at refused
        cases refused

/-! ### What the shared operations leave alone -/

section Frames

variable (j : BitVec 3) (b p : Byte) (n : Nat) (s : State)

@[simp] theorem ppuRead_ram : (ppuRead j s).2.ram = s.ram := by rw [ppuRead_frame]
@[simp] theorem ppuRead_busPending : (ppuRead j s).2.busPending = s.busPending := by rw [ppuRead_frame]
@[simp] theorem ppuRead_dmaStall : (ppuRead j s).2.dmaStall = s.dmaStall := by rw [ppuRead_frame]
@[simp] theorem ppuRead_sink : (ppuRead j s).2.sink = s.sink := by rw [ppuRead_frame]
@[simp] theorem ppuRead_input : (ppuRead j s).2.input = s.input := by rw [ppuRead_frame]
@[simp] theorem ppuRead_commands : (ppuRead j s).2.commands = s.commands := by rw [ppuRead_frame]
@[simp] theorem ppuRead_registers : (ppuRead j s).2.ppu.registers = s.ppu.registers := by rw [ppuRead_frame]
@[simp] theorem ppuRead_oam : (ppuRead j s).2.ppu.oam = s.ppu.oam := by rw [ppuRead_frame]
@[simp] theorem ppuRead_secondaryOam : (ppuRead j s).2.ppu.secondaryOam = s.ppu.secondaryOam := by rw [ppuRead_frame]
@[simp] theorem ppuRead_vram : (ppuRead j s).2.ppu.vram = s.ppu.vram := by rw [ppuRead_frame]
@[simp] theorem ppuRead_scanline : (ppuRead j s).2.ppu.scanline = s.ppu.scanline := by rw [ppuRead_frame]
@[simp] theorem ppuRead_dot : (ppuRead j s).2.ppu.dot = s.ppu.dot := by rw [ppuRead_frame]
@[simp] theorem ppuRead_oddFrame : (ppuRead j s).2.ppu.oddFrame = s.ppu.oddFrame := by rw [ppuRead_frame]

@[simp] theorem ppuWrite_ram : (ppuWrite j b s).2.ram = s.ram := by rw [ppuWrite_frame]
@[simp] theorem ppuWrite_dmaStall : (ppuWrite j b s).2.dmaStall = s.dmaStall := by rw [ppuWrite_frame]
@[simp] theorem ppuWrite_sink : (ppuWrite j b s).2.sink = s.sink := by rw [ppuWrite_frame]
@[simp] theorem ppuWrite_input : (ppuWrite j b s).2.input = s.input := by rw [ppuWrite_frame]
@[simp] theorem ppuWrite_commands : (ppuWrite j b s).2.commands = s.commands := by rw [ppuWrite_frame]
@[simp] theorem ppuWrite_secondaryOam : (ppuWrite j b s).2.ppu.secondaryOam = s.ppu.secondaryOam := by
  rw [ppuWrite_frame]
@[simp] theorem ppuWrite_scanline : (ppuWrite j b s).2.ppu.scanline = s.ppu.scanline := by rw [ppuWrite_frame]
@[simp] theorem ppuWrite_dot : (ppuWrite j b s).2.ppu.dot = s.ppu.dot := by rw [ppuWrite_frame]
@[simp] theorem ppuWrite_oddFrame : (ppuWrite j b s).2.ppu.oddFrame = s.ppu.oddFrame := by rw [ppuWrite_frame]

@[simp] theorem dmaPairs_busPending : (dmaPairs p n s).busPending = s.busPending := by rw [dmaPairs_frame]
@[simp] theorem dmaPairs_sink : (dmaPairs p n s).sink = s.sink := by rw [dmaPairs_frame]
@[simp] theorem dmaPairs_commands : (dmaPairs p n s).commands = s.commands := by rw [dmaPairs_frame]
@[simp] theorem dmaPairs_secondaryOam : (dmaPairs p n s).ppu.secondaryOam = s.ppu.secondaryOam := by
  rw [dmaPairs_frame]
@[simp] theorem dmaPairs_vram : (dmaPairs p n s).ppu.vram = s.ppu.vram := by rw [dmaPairs_frame]
@[simp] theorem dmaPairs_scanline : (dmaPairs p n s).ppu.scanline = s.ppu.scanline := by rw [dmaPairs_frame]
@[simp] theorem dmaPairs_dot : (dmaPairs p n s).ppu.dot = s.ppu.dot := by rw [dmaPairs_frame]
@[simp] theorem dmaPairs_oddFrame : (dmaPairs p n s).ppu.oddFrame = s.ppu.oddFrame := by rw [dmaPairs_frame]

@[simp] theorem busSteps_ram : (busSteps n s).ram = s.ram := by rw [busSteps_frame]
@[simp] theorem busSteps_dmaStall : (busSteps n s).dmaStall = s.dmaStall := by rw [busSteps_frame]
@[simp] theorem busSteps_sink : (busSteps n s).sink = s.sink := by rw [busSteps_frame]
@[simp] theorem busSteps_mapper : (busSteps n s).mapper = s.mapper := by rw [busSteps_frame]
@[simp] theorem busSteps_input : (busSteps n s).input = s.input := by rw [busSteps_frame]
@[simp] theorem busSteps_commands : (busSteps n s).commands = s.commands := by rw [busSteps_frame]
@[simp] theorem busSteps_registers : (busSteps n s).ppu.registers = s.ppu.registers := by rw [busSteps_frame]
@[simp] theorem busSteps_oam : (busSteps n s).ppu.oam = s.ppu.oam := by rw [busSteps_frame]
@[simp] theorem busSteps_secondaryOam : (busSteps n s).ppu.secondaryOam = s.ppu.secondaryOam := by
  rw [busSteps_frame]
@[simp] theorem busSteps_vram : (busSteps n s).ppu.vram = s.ppu.vram := by rw [busSteps_frame]

variable (q : Ppu)

@[simp] theorem stepPpu_registers : (stepPpu q).registers = q.registers := by rw [stepPpu_frame]
@[simp] theorem stepPpu_oam : (stepPpu q).oam = q.oam := by rw [stepPpu_frame]
@[simp] theorem stepPpu_secondaryOam : (stepPpu q).secondaryOam = q.secondaryOam := by rw [stepPpu_frame]
@[simp] theorem stepPpu_vram : (stepPpu q).vram = q.vram := by rw [stepPpu_frame]

end Frames

/-! ### What one register moves -/

theorem readData_pending (s : State) : (readData s).2.ppu.pending = s.ppu.pending := by
  unfold readData
  simp only
  split
  · rfl
  · split <;> rfl

theorem ppuRead_mapper_of_ne {j : BitVec 3} (h : j ≠ 7) (s : State) : (ppuRead j s).2.mapper = s.mapper := by
  unfold ppuRead
  split
  · rfl
  · rfl
  · next data => exact absurd (BitVec.eq_of_toNat_eq data) h
  · rfl

theorem writeData_frame (b : Byte) (s : State) :
    writeData b s = { s with
      ppu := { s.ppu with
        registers := (writeData b s).ppu.registers
        v := (writeData b s).ppu.v
        vram := (writeData b s).ppu.vram }
      mapper := (writeData b s).mapper } := by
  unfold writeData
  simp only
  split <;> rfl

section WriteFields

variable (b : Byte) (p : Ppu) (s : State)

@[simp] theorem writeScroll_oam : (writeScroll b p).oam = p.oam := by rw [writeScroll_frame]
@[simp] theorem writeScroll_vram : (writeScroll b p).vram = p.vram := by rw [writeScroll_frame]
@[simp] theorem writeScroll_pending : (writeScroll b p).pending = p.pending := by rw [writeScroll_frame]

@[simp] theorem writeAddress_oam : (writeAddress b p).oam = p.oam := by rw [writeAddress_frame]
@[simp] theorem writeAddress_vram : (writeAddress b p).vram = p.vram := by rw [writeAddress_frame]
@[simp] theorem writeAddress_pending : (writeAddress b p).pending = p.pending := by rw [writeAddress_frame]

@[simp] theorem writeOamData_registers : (writeOamData b p).registers = (p.setRegister 4 b).registers := by
  rw [writeOamData_eq]
@[simp] theorem writeOamData_vram : (writeOamData b p).vram = p.vram := by rw [writeOamData_eq]; rfl
@[simp] theorem writeOamData_pending : (writeOamData b p).pending = p.pending := by rw [writeOamData_eq]; rfl

@[simp] theorem writeData_registers : (writeData b s).ppu.registers = (s.ppu.setRegister 7 b).registers := by
  unfold writeData
  simp only
  split <;> rfl
@[simp] theorem writeData_oam : (writeData b s).ppu.oam = s.ppu.oam := by rw [writeData_frame]
@[simp] theorem writeData_pending : (writeData b s).ppu.pending = s.ppu.pending := by rw [writeData_frame]

end WriteFields

/-- The writes of the eight registers, one by one. -/
inductive RegisterWrite (b : Byte) (s : State) : BitVec 3 → State → Prop where
  | control : RegisterWrite b s 0
      (s.setPpu (raisePpu (controlRaises s.ppu.ctrl b s.ppu.inVblank) (writeControl b s.ppu)))
  | mask : RegisterWrite b s 1 (s.setPpu (writeMask b s.ppu))
  | status : RegisterWrite b s 2 s
  | oamAddr : RegisterWrite b s 3 (s.setPpu (writeOamAddr b s.ppu))
  | oamData : RegisterWrite b s 4 (s.setPpu (writeOamData b s.ppu))
  | scroll : RegisterWrite b s 5 (s.setPpu (writeScroll b s.ppu))
  | address : RegisterWrite b s 6 (s.setPpu (writeAddress b s.ppu))
  | data : RegisterWrite b s 7 (writeData b s)

theorem ppuWrite_registerWrite (j : BitVec 3) (b : Byte) (s : State) : RegisterWrite b s j (ppuWrite j b s).2 := by
  obtain ⟨n, hn⟩ := j
  interval_cases n
  · exact .control
  · exact .mask
  · exact .status
  · exact .oamAddr
  · exact .oamData
  · exact .scroll
  · exact .address
  · exact .data

section RegisterWrite

variable {b : Byte} {j : BitVec 3} {s u : State}

theorem RegisterWrite.oam_of_ne (h : RegisterWrite b s j u) (other : j ≠ 4) : u.ppu.oam = s.ppu.oam := by
  cases h with
  | oamData => exact absurd rfl other
  | scroll | address | data => simp
  | _ => rfl

theorem RegisterWrite.vram_of_ne (h : RegisterWrite b s j u) (other : j ≠ 7) : u.ppu.vram = s.ppu.vram := by
  cases h with
  | oamData | scroll | address => simp
  | data => exact absurd rfl other
  | _ => rfl

theorem RegisterWrite.mapper_of_ne (h : RegisterWrite b s j u) (other : j ≠ 7) : u.mapper = s.mapper := by
  cases h with
  | data => exact absurd rfl other
  | _ => rfl

/-- The common first step of every write but that of Status (R141; log 21). -/
theorem RegisterWrite.registers_of_ne (h : RegisterWrite b s j u) (other : j ≠ 2) :
    u.ppu.registers = (s.ppu.setRegister j b).registers := by
  cases h with
  | status => exact absurd rfl other
  | oamData | scroll | address | data => simp
  | _ => rfl

theorem RegisterWrite.register_two (h : RegisterWrite b s j u) : u.ppu.register 2 = s.ppu.register 2 := by
  by_cases status : j = 2
  · subst status
    cases h
    rfl
  · rw [Ppu.register_of_registers_eq (h.registers_of_ne status), if_neg (Ne.symm status)]

theorem eq_irq_of_or_eq_irq {raised slot : Slot} (raisedOther : raised ≠ some .irq) (irq : raised.or slot = some .irq) :
    slot = some .irq := by
  cases raised with
  | none => exact irq
  | some k => exact absurd irq raisedOther

theorem controlRaises_ne_irq (old new : Byte) (inVblank : Bool) : controlRaises old new inVblank ≠ some .irq := by
  unfold controlRaises
  split <;> decide

theorem RegisterWrite.pending_irq (h : RegisterWrite b s j u) (irq : u.ppu.pending = some .irq) :
    s.ppu.pending = some .irq := by
  cases h with
  | control => exact eq_irq_of_or_eq_irq (controlRaises_ne_irq _ _ _) irq
  | oamData | scroll | address | data => simpa using irq
  | _ => exact irq

end RegisterWrite

/-! ### OAM DMA and dots -/

theorem busRead_input_of_ne {a : Addr} (h : selectTarget a ≠ .input) (s : State) : (busRead a s).2.input = s.input := by
  unfold busRead
  split
  case h_3 select => exact absurd select h
  case h_2 j _ => exact ppuRead_input j s
  all_goals rfl

/-- Only from page $40 does an OAM DMA read the input device (R242, part e). -/
theorem page_of_dmaSource_input {p k : Byte} (h : selectTarget (dmaSource p k) = .input) : p = 0x40 := by
  have source := congrArg BitVec.toNat ((selectTarget_input _).mp h)
  rw [dmaSource_toNat, BitVec.toNat_ofNat] at source
  have bound := k.isLt
  have page : p.toNat = 0x40 := by omega
  exact BitVec.eq_of_toNat_eq page

theorem dmaPairs_input_of_ne {p : Byte} (h : p ≠ 0x40) (n : Nat) (s : State) : (dmaPairs p n s).input = s.input := by
  induction n with
  | zero => rfl
  | succ k ih =>
    rw [dmaPairs, dmaPair, ppuWrite_input, busRead_input_of_ne (fun input => h (page_of_dmaSource_input input)), ih]

theorem ppuRead_pending_irq {j : BitVec 3} {s : State} (irq : (ppuRead j s).2.ppu.pending = some .irq) :
    s.ppu.pending = some .irq := by
  unfold ppuRead at irq
  split at irq
  · cases irq
  · exact irq
  · exact (readData_pending s).symm.trans irq
  · exact irq

theorem busRead_pending_irq {a : Addr} {s : State} (irq : (busRead a s).2.ppu.pending = some .irq) :
    s.ppu.pending = some .irq := by
  unfold busRead at irq
  split at irq
  case h_2 => exact ppuRead_pending_irq irq
  all_goals exact irq

theorem dmaPairs_pending_irq {p : Byte} {n : Nat} {s : State} (irq : (dmaPairs p n s).ppu.pending = some .irq) :
    s.ppu.pending = some .irq := by
  induction n with
  | zero => exact irq
  | succ k ih => exact ih (busRead_pending_irq ((ppuWrite_registerWrite 4 _ _).pending_irq irq))

theorem positionRaises_ne_irq (p : Ppu) : positionRaises p ≠ some .irq := by
  unfold positionRaises
  split <;> decide

theorem stepPpu_pending_irq {p : Ppu} (irq : (stepPpu p).pending = some .irq) : p.pending = some .irq :=
  eq_irq_of_or_eq_irq (positionRaises_ne_irq p) ((stepPpu_pending p).symm.trans irq)

theorem busSteps_pending_irq {n : Nat} {s : State} (irq : (busSteps n s).ppu.pending = some .irq) :
    s.ppu.pending = some .irq := by
  induction n with
  | zero => exact irq
  | succ k ih => exact ih (stepPpu_pending_irq irq)

theorem busSteps_busPending_irq {n : Nat} {s : State} (irq : (busSteps n s).busPending = some .irq) :
    s.busPending = some .irq := by
  induction n with
  | zero => exact irq
  | succ k ih => exact ih (eq_irq_of_or_eq_irq (positionRaises_ne_irq _) irq)

/-! ### Who moves what -/

section Movers

variable {i : Instr} {s u : State}

theorem Effect.commands_eq (h : Effect s i u) : u.commands = s.commands := by
  cases h <;> simp [powerOnState]

theorem Effect.ram_moves (h : Effect s i u) (moved : u.ram ≠ s.ram) : (∃ a b, i = .wrRam a b) ∨ i = .powerOn := by
  cases h with
  | wrRam a b => exact .inl ⟨a, b, rfl⟩
  | powerOn => exact .inr rfl
  | _ => simp [dmaPairs_ram] at moved

theorem Effect.secondaryOam_moves (h : Effect s i u) (moved : u.ppu.secondaryOam ≠ s.ppu.secondaryOam) :
    (∃ j b, i = .rendSecoamWr j b) ∨ i = .powerOn := by
  cases h with
  | secoamWr j b => exact .inl ⟨j, b, rfl⟩
  | powerOn => exact .inr rfl
  | _ => simp at moved

theorem Effect.sink_moves (h : Effect s i u) (moved : u.sink ≠ s.sink) : ∃ c, i = .fsSetPixel c := by
  cases h with
  | setPixel c => exact ⟨c, rfl⟩
  | _ => simp [powerOnState] at moved

theorem Effect.position_moves (h : Effect s i u) (moved : u.ppu.position ≠ s.ppu.position) :
    i = .ppuStep ∨ (∃ n, i = .tick n) ∨ i = .reset ∨ i = .powerOn := by
  cases h with
  | ppuStep => exact .inl rfl
  | tick n => exact .inr (.inl ⟨n, rfl⟩)
  | reset => exact .inr (.inr (.inl rfl))
  | powerOn => exact .inr (.inr (.inr rfl))
  | _ => simp [Ppu.position] at moved

theorem Effect.dmaStall_moves (h : Effect s i u) (moved : u.dmaStall ≠ s.dmaStall) :
    (∃ p, i = .wrOamdma p) ∨ i = .dmaClear ∨ i = .powerOn := by
  cases h with
  | dma p => exact .inl ⟨p, rfl⟩
  | dmaClear => exact .inr (.inl rfl)
  | powerOn => exact .inr (.inr rfl)
  | _ => simp at moved

theorem Effect.oam_moves (h : Effect s i u) (moved : u.ppu.oam ≠ s.ppu.oam) :
    (∃ a b, i = .wrOamdata a b) ∨ (∃ b, i = .ppuRegWr 4 b) ∨ (∃ p, i = .wrOamdma p) ∨ i = .powerOn := by
  cases h with
  | busWrite j a b =>
    obtain rfl : j = 4 := not_imp_comm.mp (fun other => (ppuWrite_registerWrite j b s).oam_of_ne other) moved
    exact .inl ⟨a, b, rfl⟩
  | directWrite j b =>
    obtain rfl : j = 4 := not_imp_comm.mp (fun other => (ppuWrite_registerWrite j b s).oam_of_ne other) moved
    exact .inr (.inl ⟨b, rfl⟩)
  | dma p => exact .inr (.inr (.inl ⟨p, rfl⟩))
  | powerOn => exact .inr (.inr (.inr rfl))
  | _ => simp at moved

theorem Effect.vram_moves (h : Effect s i u) (moved : u.ppu.vram ≠ s.ppu.vram) :
    (∃ a b, i = .wrPpudata a b) ∨ (∃ b, i = .ppuRegWr 7 b) ∨ i = .powerOn := by
  cases h with
  | busWrite j a b =>
    obtain rfl : j = 7 := not_imp_comm.mp (fun other => (ppuWrite_registerWrite j b s).vram_of_ne other) moved
    exact .inl ⟨a, b, rfl⟩
  | directWrite j b =>
    obtain rfl : j = 7 := not_imp_comm.mp (fun other => (ppuWrite_registerWrite j b s).vram_of_ne other) moved
    exact .inr (.inl ⟨b, rfl⟩)
  | powerOn => exact .inr (.inr rfl)
  | _ => simp at moved

theorem Effect.register_two_moves (h : Effect s i u) (moved : u.ppu.register 2 ≠ s.ppu.register 2) : i = .powerOn := by
  cases h with
  | busWrite j _ b => exact absurd (ppuWrite_registerWrite j b s).register_two moved
  | directWrite j b => exact absurd (ppuWrite_registerWrite j b s).register_two moved
  | dma p => exact absurd (dmaPairs_register_of_ne (by decide) p 256 s) moved
  | powerOn => rfl
  | _ => simp [Ppu.register] at moved

theorem Effect.mapper_moves (h : Effect s i u) (moved : u.mapper ≠ s.mapper) :
    (∃ a, i = .rdPrg a ∨ i = .rdPpudata a) ∨ (∃ a b, i = .wrPrg a b ∨ i = .wrPpudata a b) ∨ i = .ppuRegRd 7 ∨
      (∃ b, i = .ppuRegWr 7 b) ∨ ∃ p, i = .wrOamdma p := by
  cases h with
  | rdPrg a => exact .inl ⟨a, .inl rfl⟩
  | wrPrg a b => exact .inr (.inl ⟨a, b, .inl rfl⟩)
  | busRead j a =>
    obtain rfl : j = 7 := not_imp_comm.mp (fun other => ppuRead_mapper_of_ne other s) moved
    exact .inl ⟨a, .inr rfl⟩
  | directRead j =>
    obtain rfl : j = 7 := not_imp_comm.mp (fun other => ppuRead_mapper_of_ne other s) moved
    exact .inr (.inr (.inl rfl))
  | busWrite j a b =>
    obtain rfl : j = 7 := not_imp_comm.mp (fun other => (ppuWrite_registerWrite j b s).mapper_of_ne other) moved
    exact .inr (.inl ⟨a, b, .inr rfl⟩)
  | directWrite j b =>
    obtain rfl : j = 7 := not_imp_comm.mp (fun other => (ppuWrite_registerWrite j b s).mapper_of_ne other) moved
    exact .inr (.inr (.inr (.inl ⟨b, rfl⟩)))
  | dma p => exact .inr (.inr (.inr (.inr ⟨p, rfl⟩)))
  | _ => simp [powerOnState] at moved

theorem Effect.input_moves (h : Effect s i u) (moved : u.input ≠ s.input) :
    i = .rdInput ∨ (∃ b, i = .wrInput b) ∨ i = .wrOamdma 0x40#8 := by
  cases h with
  | rdInput => exact .inl rfl
  | wrInput b => exact .inr (.inl ⟨b, rfl⟩)
  | dma p =>
    obtain rfl : p = 0x40 := not_imp_comm.mp (fun other => dmaPairs_input_of_ne other 256 s) moved
    exact .inr (.inr rfl)
  | _ => simp [powerOnState] at moved

theorem Effect.busPending_moves (h : Effect s i u) (moved : u.busPending ≠ s.busPending) :
    (∃ a b, i = .wrPpuctrl a b) ∨ (∃ n, i = .tick n) ∨ i = .intTake ∨ i = .extRaiseNmi ∨ i = .extRaiseIrq ∨
      i = .powerOn := by
  cases h with
  | busWrite j a b =>
    have quiet (other : j ≠ 0) : (raiseBus (ppuWrite j b s).1 (ppuWrite j b s).2).busPending = s.busPending := by
      rw [raiseBus_busPending, ppuWrite_raises, if_neg other, ppuWrite_busPending]
      rfl
    obtain rfl : j = 0 := not_imp_comm.mp quiet moved
    exact .inl ⟨a, b, rfl⟩
  | tick n => exact .inr (.inl ⟨n, rfl⟩)
  | intTake => exact .inr (.inr (.inl rfl))
  | extRaiseNmi => exact .inr (.inr (.inr (.inl rfl)))
  | extRaiseIrq => exact .inr (.inr (.inr (.inr (.inl rfl))))
  | powerOn => exact .inr (.inr (.inr (.inr (.inr rfl))))
  | _ => simp at moved

/-! ### IRQ -/

theorem Effect.busPending_irq (h : Effect s i u) (other : i ≠ .extRaiseIrq) (irq : u.busPending = some .irq) :
    s.busPending = some .irq := by
  cases h with
  | busWrite j a b =>
    rw [raiseBus_busPending, ppuWrite_busPending] at irq
    exact eq_irq_of_or_eq_irq (ppuWrite_raises_ne_irq j b s) irq
  | tick n => exact busSteps_busPending_irq irq
  | extRaiseIrq => exact absurd rfl other
  | extRaiseNmi => cases irq
  | intTake => cases irq
  | powerOn => cases irq
  | _ => simpa using irq

theorem Effect.pending_irq (h : Effect s i u) (irq : u.ppu.pending = some .irq) : s.ppu.pending = some .irq := by
  cases h with
  | busRead j => exact ppuRead_pending_irq irq
  | directRead j => exact ppuRead_pending_irq irq
  | busWrite j _ b => exact (ppuWrite_registerWrite j b s).pending_irq irq
  | directWrite j b => exact (ppuWrite_registerWrite j b s).pending_irq irq
  | dma p => exact dmaPairs_pending_irq irq
  | tick n => exact busSteps_pending_irq irq
  | ppuStep => exact stepPpu_pending_irq irq
  | powerOn => cases irq
  | ppuIntAck => cases irq
  | _ => simpa using irq

end Movers

/-! ### The obligations -/

/-- Settles O7: no case of what an operation can do touches the queue. -/
theorem operationsLeaveTheCommandsWaiting : Obligations.OperationsLeaveTheCommandsWaiting := by
  intro i s t run
  obtain ⟨u, r, rfl, effect⟩ := effect_of_exec run
  exact effect.commands_eq

/-- Settles O30, case by case of what an operation can do. -/
theorem busSlotMovers : Obligations.BusSlotMovers := by
  intro i s t run moved
  obtain ⟨u, r, rfl, effect⟩ := effect_of_exec run
  exact effect.busPending_moves moved

/-- Settles O31: nothing but the external port raises IRQ, and a slot no raise reaches is kept or emptied. -/
theorem irqComesOnlyFromOutside : Obligations.IrqComesOnlyFromOutside := by
  intro i s t run
  obtain ⟨u, r, rfl, effect⟩ := effect_of_exec run
  exact ⟨effect.busPending_irq, effect.pending_irq⟩

/-- Settles O32, case by case of what an operation can do. -/
theorem timerMovers : Obligations.TimerMovers := by
  intro i s t run moved
  obtain ⟨u, r, rfl, effect⟩ := effect_of_exec run
  exact effect.position_moves moved

/-- Settles O33, memory by memory. -/
theorem memoriesAreWrittenOnlyByTheirOperations : Obligations.MemoriesAreWrittenOnlyByTheirOperations := by
  intro i s t run
  obtain ⟨u, r, rfl, effect⟩ := effect_of_exec run
  exact ⟨effect.ram_moves, effect.oam_moves, effect.secondaryOam_moves, effect.vram_moves, effect.sink_moves,
    effect.register_two_moves, effect.dmaStall_moves, effect.mapper_moves, effect.input_moves⟩

end Sys2Proof.Machine
end

section
/-! The invariant (10_state.md R47): each write of a PPU register, each dot and each shared operation keeps it, so every
step does. -/

namespace Sys2Proof.Machine

/-- Settles O59: every field of the power-on state is written out. -/
theorem resetStateMeetsTheInvariant : Obligations.ResetStateMeetsTheInvariant :=
  ⟨rfl, ⟨by decide, by decide, by decide, by decide, by decide, by decide, rfl, rfl, rfl⟩, by decide, rfl⟩

/-! ### The PPU part -/

section PpuPart

variable {p : Ppu} (inv : p.Inv)
include inv

/-- The show flags mirror image element 1, so the image's other elements are free. -/
theorem Ppu.Inv.setRegister {j : BitVec 3} (other : j ≠ 1) (b : Byte) : (p.setRegister j b).Inv := by
  have mask : (p.setRegister j b).mask = p.mask := by
    rw [Ppu.mask, Ppu.register_setRegister, if_neg other.symm, Ppu.mask]
  exact { inv with
    background := by rw [mask]; exact inv.background
    sprites := by rw [mask]; exact inv.sprites }

theorem raisePpu_inv {raised : Slot} (h : raised ≠ some .irq) : (raisePpu raised p).Inv :=
  { inv with pending_ne_irq := fun irq => inv.pending_ne_irq (eq_irq_of_or_eq_irq h irq) }

theorem setScroll_inv (r : ScrollTarget) (x : Scroll) : (p.setScroll r x).Inv := by
  cases r with
  | v => exact { inv with }
  | t => exact { inv with }

theorem storeOam_inv (j b : Byte) : (p.storeOam j b).Inv :=
  { inv with oam_wf := Memory.write_wf _ b j.isLt inv.oam_wf }

theorem storeSecondaryOam_inv (j : BitVec 5) (b : Byte) : (p.storeSecondaryOam j b).Inv :=
  { inv with secondaryOam_wf := Memory.write_wf _ b j.isLt inv.secondaryOam_wf }

theorem storeVram_inv (a : PpuAddr) (b : Byte) : (p.storeVram a b).Inv :=
  { inv with vram_wf := Memory.write_wf _ b (Config.vramFold a).isLt inv.vram_wf }

theorem bumpV_inv : (bumpV p).Inv := { inv with }

theorem writeControl_inv (b : Byte) : (writeControl b p).Inv := { inv.setRegister (by decide) b with }

theorem writeMask_inv (b : Byte) : (writeMask b p).Inv := by
  have mask : (p.setRegister 1 b).mask = b := by rw [Ppu.mask, Ppu.register_setRegister, if_pos rfl]
  exact { inv with
    background := congrArg maskShowsBackground mask.symm
    sprites := congrArg maskShowsSprites mask.symm }

theorem writeOamAddr_inv (b : Byte) : (writeOamAddr b p).Inv := { inv.setRegister (by decide) b with }

theorem writeOamData_inv (b : Byte) : (writeOamData b p).Inv := by
  have image : (p.setRegister 4 b).Inv := inv.setRegister (by decide) b
  unfold writeOamData
  simp only
  split
  · exact { image with }
  · exact { storeOam_inv image p.oamAddr b with }

theorem writeScroll_inv (b : Byte) : (writeScroll b p).Inv := by
  have image : (p.setRegister 5 b).Inv := inv.setRegister (by decide) b
  cases mode : p.writeToggle
  · rw [writeScroll_first b mode]
    exact { image with }
  · rw [writeScroll_second b mode]
    exact { image with }

theorem writeAddress_inv (b : Byte) : (writeAddress b p).Inv := by
  have image : (p.setRegister 6 b).Inv := inv.setRegister (by decide) b
  cases mode : p.writeToggle
  · rw [writeAddress_first b mode]
    exact { image with }
  · rw [writeAddress_second b mode]
    exact { image with }

/-- The one dot that could leave the frame, (261, 340) of an odd frame, is skipped by the dot before it (R177). -/
theorem stepPpu_position_inv : (stepPpu p).scanline ≤ 261 ∧ (stepPpu p).dot < 341 ∧
    ¬((stepPpu p).scanline = 261 ∧ (stepPpu p).dot = 340 ∧ (stepPpu p).oddFrame = true) := by
  have line : p.scanline ≤ 261 := inv.scanline_le
  have dot : p.dot < 341 := inv.dot_lt
  have position := stepPpu_position p
  split at position
  · obtain ⟨line', dot', -⟩ := Ppu.position_eq_iff.mp position
    omega
  · next noSkip =>
    split at position
    · split at position
      · obtain ⟨line', dot', -⟩ := Ppu.position_eq_iff.mp position
        omega
      · obtain ⟨line', dot', -⟩ := Ppu.position_eq_iff.mp position
        omega
    · obtain ⟨line', dot', odd'⟩ := Ppu.position_eq_iff.mp position
      exact ⟨by omega, by omega, fun ⟨last, lastDot, odd⟩ => noSkip ⟨by omega, by omega, odd'.symm.trans odd⟩⟩

theorem stepPpu_inv : (stepPpu p).Inv := by
  obtain ⟨line, dot, skipped⟩ := stepPpu_position_inv inv
  rw [stepPpu_frame]
  exact { inv with
    scanline_le := line
    dot_lt := dot
    not_skipped := skipped
    pending_ne_irq := fun irq => inv.pending_ne_irq (stepPpu_pending_irq irq) }

end PpuPart

/-! ### The state -/

section Machine

variable {s : State} (inv : s.Inv)
include inv

theorem State.Inv.setPpu {p : Ppu} (h : p.Inv) : (s.setPpu p).Inv := { inv with ppu := h }

theorem writeData_inv (b : Byte) : (writeData b s).Inv := by
  have image : (s.ppu.setRegister 7 b).Inv := inv.ppu.setRegister (by decide) b
  unfold writeData
  simp only
  split
  · exact { inv with ppu := bumpV_inv image }
  · exact { inv with ppu := bumpV_inv (storeVram_inv image _ b) }

theorem ppuWrite_inv (j : BitVec 3) (b : Byte) : (ppuWrite j b s).2.Inv := by
  cases ppuWrite_registerWrite j b s with
  | control => exact inv.setPpu (raisePpu_inv (writeControl_inv inv.ppu b) (controlRaises_ne_irq _ _ _))
  | mask => exact inv.setPpu (writeMask_inv inv.ppu b)
  | status => exact inv
  | oamAddr => exact inv.setPpu (writeOamAddr_inv inv.ppu b)
  | oamData => exact inv.setPpu (writeOamData_inv inv.ppu b)
  | scroll => exact inv.setPpu (writeScroll_inv inv.ppu b)
  | address => exact inv.setPpu (writeAddress_inv inv.ppu b)
  | data => exact writeData_inv inv b

theorem ppuRead_inv (j : BitVec 3) : (ppuRead j s).2.Inv := by
  rw [ppuRead_frame]
  exact { inv with ppu := { inv.ppu with
    pending_ne_irq := fun irq => inv.ppu.pending_ne_irq (ppuRead_pending_irq irq) } }

theorem busRead_inv (a : Addr) : (busRead a s).2.Inv := by
  rw [busRead_frame]
  exact { inv with ppu := { inv.ppu with
    pending_ne_irq := fun irq => inv.ppu.pending_ne_irq (busRead_pending_irq irq) } }

theorem dmaPairs_inv (p : Byte) (n : Nat) : (dmaPairs p n s).Inv := by
  induction n with
  | zero => exact inv
  | succ k ih => exact ppuWrite_inv (busRead_inv ih _) 4 _

theorem busSteps_inv (n : Nat) : (busSteps n s).Inv := by
  induction n with
  | zero => exact inv
  | succ k ih => exact { ih with ppu := stepPpu_inv ih.ppu }

theorem Effect.keeps_inv {i : Instr} {u : State} (h : Effect s i u) : u.Inv := by
  cases h with
  | quiet => exact inv
  | wrRam a b => exact { inv with ram_wf := Memory.write_wf _ b (ramIndex a).isLt inv.ram_wf }
  | busRead j => exact ppuRead_inv inv j
  | directRead j => exact ppuRead_inv inv j
  | busWrite j _ b => exact { ppuWrite_inv inv j b with }
  | directWrite j b => exact ppuWrite_inv inv j b
  | dma p => exact { dmaPairs_inv inv p 256 with }
  | tick n => exact busSteps_inv inv (3 * n)
  | ppuStep => exact inv.setPpu (stepPpu_inv inv.ppu)
  | reset =>
    exact inv.setPpu { inv.ppu with
      scanline_le := Nat.zero_le _
      dot_lt := Nat.succ_pos _
      not_skipped := fun ⟨line, _⟩ => Nat.zero_ne_add_one _ line }
  | powerOn => exact { resetStateMeetsTheInvariant with cursor_lt := inv.cursor_lt, pixels_wf := inv.pixels_wf }
  | ppuIntAck => exact inv.setPpu { inv.ppu with pending_ne_irq := fun irq => nomatch irq }
  | setS0hit => exact inv.setPpu { inv.ppu with }
  | setOvf => exact inv.setPpu { inv.ppu with }
  | secoamWr j b => exact inv.setPpu (storeSecondaryOam_inv inv.ppu j b)
  | scroll _ r x => exact inv.setPpu (setScroll_inv inv.ppu r x)
  | setPixel c =>
    exact { inv with
      cursor_lt := s.sink.setPixel_cursor_lt c
      pixels_wf := Memory.write_wf _ c inv.cursor_lt inv.pixels_wf }
  | rdInput | wrInput | rdPrg | wrPrg | intTake | dmaClear | extRaiseNmi | extRaiseIrq => exact { inv with }

end Machine

/-- Settles O60: a step that answers is an idle step or one operation, and each case of what an operation can do keeps
the invariant. -/
theorem stepKeepsTheInvariant : Obligations.StepKeepsTheInvariant := by
  intro s t inv next
  unfold step at next
  split at next
  · cases next
    exact inv
  · next w rest _ =>
    split at next
    · cases next
    · obtain ⟨u, r, rfl, effect⟩ := effect_of_exec next
      have taken : (s.setCommands rest).Inv := { inv with }
      exact { effect.keeps_inv taken with }

end Sys2Proof.Machine
end

section
/-! The PPU registers and the collaborators as the Bus reaches them (41_ppu_registers.md, 43_bus_dispatch.md section
4): the Status read, the two $2007 accesses, the Control write, the direct port beside the Bus, and the pseudo-operations on VRAM. -/

namespace Sys2Proof.Machine

/-! ### One rule for each operation -/

theorem exec_rdPpustatus (a : Addr) (s : State) :
    exec (.rdPpustatus a) s = .next ((s.setPpu (readStatus s.ppu)).setReply (.byte (statusByte s.ppu))) := rfl

theorem exec_rdPpudata (a : Addr) (s : State) :
    exec (.rdPpudata a) s = .next ((readData s).2.setReply (.byte (readData s).1)) := rfl

theorem exec_wrPpuctrl (a : Addr) (b : Byte) (s : State) :
    exec (.wrPpuctrl a b) s = .next ((writeReg 0 b s).setReply .nothing) := rfl

theorem exec_wrPpudata (a : Addr) (b : Byte) (s : State) :
    exec (.wrPpudata a b) s = .next ((writeData b s).setReply .nothing) := rfl

theorem exec_rdPrg (a : Addr) (s : State) :
    exec (.rdPrg a) s = .next ((s.setMapper (s.mapper.ask (.readPrg a)).2).setReply
      (.byte (s.mapper.ask (.readPrg a)).1)) := rfl

theorem exec_rdInput (s : State) :
    exec .rdInput s = .next ((s.setInput s.input.ask.2).setReply (.byte s.input.ask.1)) := rfl

/-! ### Registers that answer nothing (R153, R145) -/

theorem ppuRead_of_writeOnly {j : BitVec 3} (h2 : j ≠ 2) (h4 : j ≠ 4) (h7 : j ≠ 7) (s : State) :
    ppuRead j s = (0, s) := by
  unfold ppuRead
  split
  · next status => exact absurd (BitVec.eq_of_toNat_eq status) h2
  · next oamData => exact absurd (BitVec.eq_of_toNat_eq oamData) h4
  · next data => exact absurd (BitVec.eq_of_toNat_eq data) h7
  · rfl

/-- Settles O12: each of these meanings replies and writes nothing else. -/
theorem oneWayAddressesReadZeroAndIgnoreWrites : Obligations.OneWayAddressesReadZeroAndIgnoreWrites := by
  intro a b s
  refine ⟨rfl, rfl, rfl, rfl, rfl, rfl, rfl, fun j h2 h4 h7 => ?_, rfl, rfl, rfl⟩
  rw [exec_ppuRegRd, ppuRead_of_writeOnly h2 h4 h7]

/-! ### Status (R144) -/

theorem statusByte_bit (p : Ppu) (k : Nat) :
    (statusByte p).getLsbD k =
      if k = 7 then p.inVblank else if k = 6 then p.spriteZeroHit else if k = 5 then p.spriteOverflow else false := by
  simp only [statusByte, BitVec.getLsbD_append, BitVec.getLsbD_ofBool, BitVec.getLsbD_zero]
  obtain low | rfl | rfl | rfl | high : k < 5 ∨ k = 5 ∨ k = 6 ∨ k = 7 ∨ 8 ≤ k := by omega
  · rw [if_pos low, if_neg (by omega), if_neg (by omega), if_neg (by omega)]
  · simp
  · simp
  · simp
  · rw [if_neg (by omega), if_neg (by omega), if_neg (by omega), if_neg (by omega), if_neg (by omega),
      if_neg (by omega), decide_eq_false (by omega), Bool.false_and]

/-- Settles O13, from the rule of the Status read and the bits of the byte it replies. -/
theorem statusReadShowsAndClears : Obligations.StatusReadShowsAndClears := by
  intro a s
  refine ⟨_, exec_rdPpustatus a s, statusByte_bit s.ppu 7, statusByte_bit s.ppu 6, statusByte_bit s.ppu 5,
    fun k low => ?_⟩
  rw [statusByte_bit, if_neg (by omega), if_neg (by omega), if_neg (by omega)]

/-! ### The $2007 accesses (R151, R152, R155) -/

theorem dataAddr_eq (v : Scroll) : dataAddr v = v.setWidth 14 := (BitVec.setWidth_eq_extractLsb' (by decide)).symm

theorem vramIncrement_toNat (ctrl : Byte) : (vramIncrement ctrl).toNat = if ctrl.getLsbD 2 then 32 else 1 :=
  apply_ite BitVec.toNat _ _ _

theorem readData_palette {s : State} (h : Config.paletteBase ≤ dataAddr s.ppu.v) :
    readData s = (s.ppu.vramByte (dataAddr s.ppu.v),
      s.setPpu (bumpV { s.ppu with readBuffer := s.ppu.vramByte (dataAddr s.ppu.v - Config.paletteUnder) })) :=
  if_pos h

theorem readData_nametable {s : State} (low : Config.chrLimit ≤ dataAddr s.ppu.v)
    (high : dataAddr s.ppu.v < Config.paletteBase) :
    readData s = (s.ppu.readBuffer,
      s.setPpu (bumpV { s.ppu with readBuffer := s.ppu.vramByte (dataAddr s.ppu.v) })) := by
  unfold readData
  simp only
  rw [if_neg (BitVec.not_le.mpr high), if_neg (BitVec.not_lt.mpr low)]

theorem readData_chr {s : State} (h : dataAddr s.ppu.v < Config.chrLimit) :
    readData s = (s.ppu.readBuffer,
      (s.setMapper (s.mapper.ask (.readChr (dataAddr s.ppu.v))).2).setPpu
        (bumpV { s.ppu with readBuffer := (s.mapper.ask (.readChr (dataAddr s.ppu.v))).1 })) := by
  have below : dataAddr s.ppu.v < Config.paletteBase := BitVec.lt_trans h (by decide)
  unfold readData
  simp only
  rw [if_neg (BitVec.not_le.mpr below), if_pos h]

theorem readData_frame (s : State) :
    (readData s).2 = { s with
      ppu := { s.ppu with
        v := (readData s).2.ppu.v
        readBuffer := (readData s).2.ppu.readBuffer }
      mapper := (readData s).2.mapper } := by
  unfold readData
  simp only
  split
  · rfl
  · split <;> rfl

theorem readData_v (s : State) : (readData s).2.ppu.v = bump (vramIncrement s.ppu.ctrl) s.ppu.v := by
  unfold readData
  simp only
  split
  · rfl
  · split <;> rfl

theorem bump_vramIncrement_toNat (ctrl : Byte) (v : Scroll) :
    (bump (vramIncrement ctrl) v).toNat = (v.toNat + if ctrl.getLsbD 2 then 32 else 1) % 0x4000 := by
  rw [bump_toNat, vramIncrement_toNat]

theorem Mapper.ask_of_cons {m : Mapper} {b : Byte} {rest : List Byte} (h : m.answers = b :: rest) (c : MapperCall) :
    m.ask c = (b, { calls := c :: m.calls, answers := rest }) := by
  rw [Mapper.ask, h]

theorem Mapper.ask_of_nil {m : Mapper} (h : m.answers = []) (c : MapperCall) :
    m.ask c = (Config.mapperAnswer (c :: m.calls), { calls := c :: m.calls, answers := [] }) := by
  rw [Mapper.ask, h]

theorem InputDevice.ask_of_cons {m : InputDevice} {b : Byte} {rest : List Byte} (h : m.answers = b :: rest) :
    m.ask = (b, { calls := .read :: m.calls, answers := rest }) := by
  rw [InputDevice.ask, h]

theorem InputDevice.ask_of_nil {m : InputDevice} (h : m.answers = []) :
    m.ask = (Config.inputAnswer (.read :: m.calls), { calls := .read :: m.calls, answers := [] }) := by
  rw [InputDevice.ask, h]

/-- Settles O15, region by region of the address. -/
theorem dataReadIsBufferedBelowThePalette : Obligations.DataReadIsBufferedBelowThePalette := by
  intro a s
  refine ⟨_, exec_rdPpudata a s, ?_⟩
  rw [← dataAddr_eq]
  refine ⟨fun palette => ?_, fun low high => ?_, fun chr => ?_, ?_, ?_⟩
  · rw [readData_palette palette]
    exact ⟨rfl, rfl, rfl⟩
  · rw [readData_nametable low high]
    exact ⟨rfl, rfl, rfl⟩
  · rw [readData_chr chr]
    refine ⟨rfl, Mapper.ask_calls _ _, fun b rest ready => ?_, fun none => ?_⟩
    · rw [Mapper.ask_of_cons ready]
      exact ⟨rfl, rfl⟩
    · rw [Mapper.ask_of_nil none]
      exact ⟨rfl, rfl⟩
  · exact (congrArg BitVec.toNat (readData_v s)).trans (bump_vramIncrement_toNat _ _)
  · exact congrArg (State.setReply · (.byte (readData s).1)) (readData_frame s)

theorem writeData_chr (b : Byte) {s : State} (h : dataAddr s.ppu.v < Config.chrLimit) :
    writeData b s = (s.setMapper (s.mapper.tell (.writeChr (dataAddr s.ppu.v) b))).setPpu
      (bumpV (s.ppu.setRegister 7 b)) :=
  if_pos h

theorem writeData_vram (b : Byte) {s : State} (h : Config.chrLimit ≤ dataAddr s.ppu.v) :
    writeData b s = s.setPpu (bumpV ((s.ppu.setRegister 7 b).storeVram (dataAddr s.ppu.v) b)) :=
  if_neg (BitVec.not_lt.mpr h)

theorem writeData_vramByte (b : Byte) (s : State) (x : PpuAddr) :
    (writeData b s).ppu.vramByte x =
      if Config.chrLimit ≤ dataAddr s.ppu.v ∧ Config.vramFold x = Config.vramFold (dataAddr s.ppu.v) then b
      else s.ppu.vramByte x := by
  by_cases low : Config.chrLimit ≤ dataAddr s.ppu.v
  · rw [writeData_vram b low]
    simp only [low, true_and]
    exact Ppu.vramByte_storeVram (s.ppu.setRegister 7 b) _ x b
  · rw [writeData_chr b (BitVec.not_le.mp low), if_neg fun both => low both.1]
    rfl

/-- The image element the write stores is not the control byte the increment is taken from. -/
theorem writeData_v (b : Byte) (s : State) : (writeData b s).ppu.v = bump (vramIncrement s.ppu.ctrl) s.ppu.v := by
  have sameCtrl : (s.ppu.setRegister 7 b).ctrl = s.ppu.ctrl := by
    rw [Ppu.ctrl, Ppu.register_setRegister, if_neg (by decide), Ppu.ctrl]
  rw [← sameCtrl]
  unfold writeData
  simp only
  split <;> rfl

/-- Settles O16, by the side of `CHR_LIMIT` the address is on. -/
theorem dataWriteReachesVramOrTheMapper : Obligations.DataWriteReachesVramOrTheMapper := by
  intro a b s
  refine ⟨_, exec_wrPpudata a b s, ?_⟩
  rw [← dataAddr_eq]
  refine ⟨writeData_vramByte b s, fun low => ?_, fun chr => ?_,
    Ppu.register_of_registers_eq (writeData_registers b s), ?_, ?_⟩
  · rw [writeData_vram b low]
    rfl
  · rw [writeData_chr b chr]
    exact ⟨rfl, rfl⟩
  · exact (congrArg BitVec.toNat (writeData_v b s)).trans (bump_vramIncrement_toNat _ _)
  · exact congrArg (State.setReply · .nothing) (writeData_frame b s)

/-! ### The Control write and the direct port (R142, R197) -/

theorem writeReg_zero_pending (b : Byte) (s : State) :
    (writeReg 0 b s).ppu.pending = (controlRaises s.ppu.ctrl b s.ppu.inVblank).or s.ppu.pending := rfl

theorem writeReg_zero_busPending (b : Byte) (s : State) :
    (writeReg 0 b s).busPending = (controlRaises s.ppu.ctrl b s.ppu.inVblank).or s.busPending := rfl

/-- Settles O18: one raise is latched into both slots, and it is NMI exactly on the enable edge. -/
theorem busControlWriteRaisesInBothSlots : Obligations.BusControlWriteRaisesInBothSlots := by
  intro a b s
  refine ⟨_, exec_wrPpuctrl a b s, Ppu.register_of_registers_eq rfl, writeControl_t_bit b s.ppu, fun edge => ?_,
    fun noEdge => ?_, rfl⟩
  · rw [State.setReply_ppu, State.setReply_busPending, writeReg_zero_pending, writeReg_zero_busPending,
      controlRaises_of_edge (old := s.ppu.ctrl) edge]
    exact ⟨rfl, rfl⟩
  · rw [State.setReply_ppu, State.setReply_busPending, writeReg_zero_pending, writeReg_zero_busPending,
      controlRaises_of_not_edge (old := s.ppu.ctrl) noEdge]
    exact ⟨rfl, rfl⟩

/-- What a write can raise: NMI, by the Control register alone. -/
theorem ppuWrite_raises_only_nmi {j : BitVec 3} {b : Byte} {s : State} (h : (ppuWrite j b s).1 ≠ none) :
    (ppuWrite j b s).1 = some .nmi ∧ j = 0 := by
  rw [ppuWrite_raises, controlRaises] at h ⊢
  grind

/-- Settles O25: behind an address of the range stand BUS_READ and BUS_WRITE of its register, which are the direct port's
but for the latch. -/
theorem directPortRunsTheBusRules : Obligations.DirectPortRunsTheBusRules := by
  intro a b s low high
  have select := selectTarget_of_reg_range low high
  refine ⟨⟨_, exec_ppuRegRd _ s, ?_⟩, _, _, exec_ppuRegWr _ b s, rfl, ppuWrite_busPending _ b s,
    ppuWrite_raises_only_nmi, ?_⟩
  · rw [exec_decodeRead, busRead_of_reg select]
  · rw [exec_decodeWrite, busWrite_of_reg select, writeReg, raiseBus]
    generalize (ppuWrite (a.setWidth 3) b s).1 = raised
    cases raised <;> rfl

/-! ### The collaborators (R213, R214, R217, R218) -/

/-- Settles O29: each access is one call, and the answer is the environment's or the free value. -/
theorem collaboratorBytesPassThrough : Obligations.CollaboratorBytesPassThrough := by
  refine ⟨fun a s => ⟨_, _, exec_rdPrg a s, Mapper.ask_calls _ _, fun b rest ready => ?_, fun none => ?_, rfl⟩,
    fun _ _ _ => rfl,
    fun s => ⟨_, _, exec_rdInput s, InputDevice.ask_calls _, fun b rest ready => ?_, fun none => ?_, rfl⟩,
    fun _ _ => rfl⟩
  · rw [Mapper.ask_of_cons ready]
    exact ⟨rfl, rfl⟩
  · rw [Mapper.ask_of_nil none]
    exact ⟨rfl, rfl⟩
  · rw [InputDevice.ask_of_cons ready]
    exact ⟨rfl, rfl⟩
  · rw [InputDevice.ask_of_nil none]
    exact ⟨rfl, rfl⟩

/-! ### The pseudo-operations on VRAM (R113) -/

/-- What the two address writes of SETADDR leave in `v` and `t`: the operand's low 14 bits (90_conflicts.md C1). -/
theorem addressFolds_eq (t : Scroll) (a : Addr) :
    addressFold2 (addressFold1 t (highByte a)) (lowByte a) = (a.setWidth 14).setWidth 15 := by
  refine BitVec.eq_of_getLsbD_eq fun k hk => ?_
  rw [addressFold2_bit, addressFold1_bit _ _ hk, BitVec.getLsbD_setWidth, BitVec.getLsbD_setWidth]
  by_cases low : k < 8
  · simp [low, hk, lowByte, show k < 14 by omega]
  · by_cases top : k = 14
    · simp [top]
    · simp [low, top, hk, highByte, show k - 8 < 8 by omega, show 8 + (k - 8) = k by omega, show k < 14 by omega]

/-- The PPU part after SETADDR. -/
def Ppu.afterSetAddr (p : Ppu) (a : Addr) : Ppu := writeAddress (lowByte a) (writeAddress (highByte a) (readStatus p))

theorem execAll_setAddr (a : Addr) (s : State) :
    execAll (setAddrOps a) s = .next (s.withPpu (s.ppu.afterSetAddr a)) := by
  rw [setAddrOps, execAll_cons_next (exec_rdPpustatus _ _), execAll_cons_next (exec_wrPpuaddr _ _ _),
    execAll_cons_next (exec_wrPpuaddr _ _ _)]
  rfl

theorem Ppu.afterSetAddr_eq (p : Ppu) (a : Addr) :
    p.afterSetAddr a = { ((readStatus p).setRegister 6 (highByte a)).setRegister 6 (lowByte a) with
      v := (a.setWidth 14).setWidth 15, t := (a.setWidth 14).setWidth 15, writeToggle := false } := by
  rw [afterSetAddr, writeAddress_first (highByte a) rfl, writeAddress_second (lowByte a) rfl, ← addressFolds_eq p.t a]
  rfl

theorem Ppu.afterSetAddr_v (p : Ppu) (a : Addr) : (p.afterSetAddr a).v = (a.setWidth 14).setWidth 15 := by
  rw [afterSetAddr_eq]

theorem Ppu.afterSetAddr_t (p : Ppu) (a : Addr) : (p.afterSetAddr a).t = (a.setWidth 14).setWidth 15 := by
  rw [afterSetAddr_eq]

theorem Ppu.afterSetAddr_writeToggle (p : Ppu) (a : Addr) : (p.afterSetAddr a).writeToggle = false := by
  rw [afterSetAddr_eq]

theorem Ppu.afterSetAddr_vramByte (p : Ppu) (a : Addr) (x : PpuAddr) :
    (p.afterSetAddr a).vramByte x = p.vramByte x := by
  rw [afterSetAddr_eq]
  rfl

theorem Ppu.afterSetAddr_ctrl (p : Ppu) (a : Addr) : (p.afterSetAddr a).ctrl = p.ctrl := by
  have image : (p.afterSetAddr a).registers =
      (((readStatus p).setRegister 6 (highByte a)).setRegister 6 (lowByte a)).registers := by
    rw [afterSetAddr_eq]
  rw [Ppu.ctrl, Ppu.register_of_registers_eq image, if_neg (by decide), Ppu.register_setRegister, if_neg (by decide)]
  rfl

theorem addr14_toNat (a : Addr) : ((a.setWidth 14).setWidth 15 : Scroll).toNat = a.toNat % 0x4000 := by
  rw [BitVec.toNat_setWidth_of_le (by decide), BitVec.toNat_setWidth]

theorem dataAddr_addr14 (a : Addr) : dataAddr ((a.setWidth 14).setWidth 15) = a.setWidth 14 := by
  rw [dataAddr_eq, BitVec.setWidth_setWidth_of_le _ (by decide), BitVec.setWidth_eq]

/-- A poke at or above `CHR_LIMIT` leaves its byte in VRAM. -/
theorem execAll_vpoke {a : Addr} (low : Config.chrLimit ≤ a.setWidth 14) (b : Byte) (s : State) :
    ∃ t, execAll (expandPseudo (.vpoke a b)) s = .next t ∧ t.ppu.vramByte (a.setWidth 14) = b ∧
      t.ppu.ctrl = s.ppu.ctrl := by
  have address : dataAddr (s.ppu.afterSetAddr a).v = a.setWidth 14 := by rw [Ppu.afterSetAddr_v, dataAddr_addr14]
  refine ⟨(writeData b (s.withPpu (s.ppu.afterSetAddr a))).setReply .nothing, ?_, ?_, ?_⟩
  · rw [expandPseudo, execAll_append (execAll_setAddr a s), execAll_cons_next (exec_wrPpudata _ b _)]
    rfl
  · rw [State.setReply_ppu, writeData_vramByte, State.withPpu_ppu, address, if_pos ⟨low, rfl⟩]
  · have image := writeData_registers b (s.withPpu (s.ppu.afterSetAddr a))
    rw [State.setReply_ppu, Ppu.ctrl, Ppu.register_of_registers_eq image, if_neg (by decide)]
    exact Ppu.afterSetAddr_ctrl s.ppu a

theorem dataAddr_toNat (v : Scroll) : (dataAddr v).toNat = v.toNat % 0x4000 := by
  rw [dataAddr_eq, BitVec.toNat_setWidth]

/-- A peek of a nametable address: the first read fetches the byte, the second, still below the palette, replies it. -/
theorem execAll_vpeek {a : Addr} {s : State} (low : Config.chrLimit ≤ a.setWidth 14)
    (high : a.toNat % 0x4000 + (if s.ppu.ctrl.getLsbD 2 then 32 else 1) < Config.paletteBase.toNat) :
    ∃ t, execAll (expandPseudo (.vpeek a)) s = .next t ∧ t.reply = .byte (s.ppu.vramByte (a.setWidth 14)) := by
  obtain ⟨p, hp⟩ : ∃ p, p = s.ppu.afterSetAddr a := ⟨_, rfl⟩
  have v : p.v = (a.setWidth 14).setWidth 15 := by rw [hp, Ppu.afterSetAddr_v]
  have address : dataAddr p.v = a.setWidth 14 := by rw [v, dataAddr_addr14]
  have value : (a.setWidth 14).toNat = a.toNat % 0x4000 := BitVec.toNat_setWidth ..
  have lowNat : 0x2000 ≤ (a.setWidth 14).toNat := low
  have base : Config.paletteBase.toNat = 0x3F00 := rfl
  have fetch : readData (s.withPpu p) = (p.readBuffer,
      (s.withPpu p).setPpu (bumpV { p with readBuffer := s.ppu.vramByte (a.setWidth 14) })) := by
    have fetched := readData_nametable (s := s.withPpu p) (address ▸ low)
      (BitVec.lt_def.mpr (by rw [State.withPpu_ppu, address]; split at high <;> omega))
    rw [State.withPpu_ppu, address] at fetched
    rw [fetched, hp, Ppu.afterSetAddr_vramByte]
  obtain ⟨u, hu⟩ : ∃ u, u = (readData (s.withPpu p)).2.setReply (.byte (readData (s.withPpu p)).1) := ⟨_, rfl⟩
  have buffer : u.ppu.readBuffer = s.ppu.vramByte (a.setWidth 14) := by rw [hu, fetch]; rfl
  have next : (dataAddr u.ppu.v).toNat = a.toNat % 0x4000 + if s.ppu.ctrl.getLsbD 2 then 32 else 1 := by
    rw [hu, State.setReply_ppu, readData_v, State.withPpu_ppu, dataAddr_toNat, bump_vramIncrement_toNat, v,
      addr14_toNat, hp, Ppu.afterSetAddr_ctrl]
    omega
  refine ⟨(readData u).2.setReply (.byte (readData u).1), ?_, ?_⟩
  · rw [expandPseudo, execAll_append (execAll_setAddr a s), ← hp, execAll_cons_next (exec_rdPpudata _ _), ← hu,
      execAll_cons_next (exec_rdPpudata _ _)]
    rfl
  · rw [State.setReply_reply, readData_nametable, buffer]
    · rw [BitVec.le_def, next]
      exact lowNat.trans (value.trans_le (Nat.le_add_right _ _))
    · rw [BitVec.lt_def, next]
      exact high

/-- Settles O58: SETADDR by its three operations, and the peek of what the poke left in VRAM. -/
theorem vpokeIsSeenByVpeek : Obligations.VpokeIsSeenByVpeek := by
  intro a b s
  refine ⟨⟨_, execAll_setAddr a s, ?_, ?_, Ppu.afterSetAddr_writeToggle s.ppu a⟩, fun low high => ?_⟩
  · rw [State.withPpu_ppu, Ppu.afterSetAddr_v, addr14_toNat]
  · rw [State.withPpu_ppu, Ppu.afterSetAddr_t, Ppu.afterSetAddr_v]
  · obtain ⟨u, poke, byte, ctrl⟩ := execAll_vpoke low b s
    obtain ⟨t, peek, reply⟩ := execAll_vpeek (s := u) low (by rw [ctrl]; exact high)
    exact ⟨t, (execAll_append poke).trans peek, reply.trans (by rw [byte])⟩

end Sys2Proof.Machine
end

section
/-! TICK and the ports (44_bus_dma_tick_irq.md sections 2 and 3, 45_collaborator_ports.md section 3,
70_reset_and_hazards.md section 1): one position per dot, runs of dots, the single-slot law, the rendering mutators and
the two lifecycle operations. -/

namespace Sys2Proof.Machine

/-! ### One dot (R177) -/

/-- Settles O37, from the position law of one dot and its frame. -/
theorem stepAdvancesOnePosition : Obligations.StepAdvancesOnePosition := by
  intro s
  refine ⟨_, exec_ppuStep s, (stepPpu_position s.ppu).trans ?_, ?_⟩
  · split
    · next skip => rw [skip.2.2]; rfl
    · rfl
  · exact congrArg (fun p => (s.setPpu p).setReply (.stepped (positionRaises s.ppu) (stepPpu s.ppu).pending))
      (stepPpu_frame s.ppu)

/-! ### Runs of dots (R233, R234) -/

theorem busSteps_add (m n : Nat) (s : State) : busSteps (m + n) s = busSteps n (busSteps m s) := by
  induction n with
  | zero => rfl
  | succ n ih => exact congrArg busStep ih

theorem busStep_setReply (s : State) (r : Reply) : busStep (s.setReply r) = (busStep s).setReply r := rfl

theorem busSteps_setReply (n : Nat) (s : State) (r : Reply) :
    busSteps n (s.setReply r) = (busSteps n s).setReply r := by
  induction n with
  | zero => rfl
  | succ n ih => rw [busSteps, ih, busStep_setReply, busSteps]

/-- Settles O41: the dots of m + n cycles are those of m cycles and then those of n. -/
theorem ticksAdd : Obligations.TicksAdd := by
  intro m n s
  refine ⟨exec_tick 0 s, _, exec_tick m s, ?_⟩
  rw [exec_tick, exec_tick, busSteps_setReply, Nat.mul_add, busSteps_add]
  rfl

/-- A run of PPU_STEPs is the dots alone, without the latch into the Bus slot. -/
theorem execAll_ppuSteps (n : Nat) (s : State) :
    ∃ r, execAll (List.replicate n .ppuStep) s = .next ((s.setPpu (stepPpu^[n] s.ppu)).setReply r) := by
  induction n generalizing s with
  | zero => exact ⟨s.reply, rfl⟩
  | succ n ih =>
    have first := execAll_cons_next (exec_ppuStep s) (List.replicate n .ppuStep)
    obtain ⟨r, run⟩ := ih _
    exact ⟨r, first.trans run⟩

/-- The dots of a TICK are those of the PPU, and beside them the Bus slot alone moves. -/
theorem busSteps_eq (n : Nat) (s : State) :
    ∃ slot, busSteps n s = { s with ppu := stepPpu^[n] s.ppu, busPending := slot } := by
  induction n with
  | zero => exact ⟨s.busPending, rfl⟩
  | succ n ih =>
    obtain ⟨slot, run⟩ := ih
    exact ⟨_, by rw [Function.iterate_succ_apply', busSteps, run]; rfl⟩

/-- A further cycle is three more dots. -/
theorem exec_tick_succ (n : Nat) (s : State) :
    exec (.tick (n + 1)) s = .next ((busStep (busStep (busStep (busSteps (3 * n) s)))).setReply .nothing) :=
  exec_tick (n + 1) s

/-- Settles O40: the dots of a TICK and the run of PPU_STEPs are the same iterate, and a further cycle is three more
dots. -/
theorem tickRunsThreeDotsPerCycle : Obligations.TickRunsThreeDotsPerCycle := by
  refine ⟨fun n s => ?_, fun n s => ?_, exec_tick 0⟩
  · obtain ⟨r, run⟩ := execAll_ppuSteps (3 * n) s
    obtain ⟨slot, dots⟩ := busSteps_eq (3 * n) s
    refine ⟨_, _, exec_tick n s, run, ?_⟩
    rw [dots]
    rfl
  · refine ⟨_, _, _, _, _, _, _, _, _, _, _, exec_tick n s, exec_tick_succ n s, exec_ppuStep _, rfl,
      exec_ppuStep _, rfl, exec_ppuStep _, rfl, ?_⟩
    generalize busSteps (3 * n) s = t
    rfl

/-- The vblank position raises NMI, and only with the enable bit set (R173). -/
theorem positionRaises_cases (p : Ppu) :
    positionRaises p = none ∨ positionRaises p = some .nmi ∧ nmiEnabled p.ctrl = true := by
  unfold positionRaises
  split
  · next raises => exact .inr ⟨rfl, raises.2.2⟩
  · exact .inl rfl

/-- A run of dots leaves the Bus slot alone or latches an enabled NMI, for no dot moves the control byte. -/
theorem busSteps_busPending_cases (n : Nat) (s : State) :
    (busSteps n s).busPending = s.busPending ∨
      (busSteps n s).busPending = some .nmi ∧ nmiEnabled s.ppu.ctrl = true := by
  induction n with
  | zero => exact .inl rfl
  | succ n ih =>
    have last : (busSteps (n + 1) s).busPending =
        (positionRaises (busSteps n s).ppu).or (busSteps n s).busPending := rfl
    rw [last]
    rcases positionRaises_cases (busSteps n s).ppu with none | ⟨nmi, enabled⟩
    · rw [none]
      exact ih
    · rw [nmi]
      exact .inr ⟨rfl, busSteps_ctrl n s ▸ enabled⟩

/-- Settles O42, from what a run of dots does to the Bus slot and from its frame. -/
theorem tickLatchesOnlyFreshNmi : Obligations.TickLatchesOnlyFreshNmi := by
  intro n s
  exact ⟨_, exec_tick n s, busSteps_busPending_cases (3 * n) s,
    congrArg (fun t => t.setReply .nothing) (busSteps_frame (3 * n) s)⟩

/-! ### The ports: takes, clears and raises (R236, R238 to R241) -/

/-- Settles O44: each of the five operations writes one field. -/
theorem takesClearsAndRaises : Obligations.TakesClearsAndRaises :=
  fun _ => ⟨rfl, rfl, rfl, rfl, rfl⟩

/-- The operation that raises a kind from outside. -/
def raiseInstr (k : Kind) : Instr := match k with | .nmi => .extRaiseNmi | .irq => .extRaiseIrq

theorem exec_raiseInstr (k : Kind) (s : State) :
    exec (raiseInstr k) s = .next ((s.setBusPending (some k)).setReply .nothing) := by
  cases k <;> rfl

/-- External raises complete, whatever their kinds. -/
theorem execAll_raiseInstrs (ks : List Kind) (s : State) : ∃ t, execAll (ks.map raiseInstr) s = .next t := by
  induction ks generalizing s with
  | nil => exact ⟨s, rfl⟩
  | cons k ks ih =>
    obtain ⟨t, run⟩ := ih ((s.setBusPending (some k)).setReply .nothing)
    exact ⟨t, (execAll_cons_next (exec_raiseInstr k s) _).trans run⟩

/-- Settles O45: the last raise overwrites what those before it left. -/
theorem onlyTheLastRaiseIsTaken : Obligations.OnlyTheLastRaiseIsTaken := by
  intro ks k s
  obtain ⟨t, run⟩ := execAll_raiseInstrs ks s
  have all : execAll ((ks ++ [k]).map raiseInstr ++ [.intTake]) s = execAll [raiseInstr k, .intTake] t := by
    rw [List.map_append, List.append_assoc]
    exact execAll_append run
  exact ⟨_, all.trans (execAll_cons_next (exec_raiseInstr k t) _), rfl, rfl⟩

/-! ### The rendering mutators (R257 to R261) -/

/-- Settles O48: the increments are those of the scroll registers on `v`, and each other mutator writes one field. -/
theorem renderingMutatorsWriteTheirTarget : Obligations.RenderingMutatorsWriteTheirTarget :=
  ⟨fun s => ⟨_, rfl, exec_srIncX .v s⟩, fun s => ⟨_, rfl, exec_srIncY .v s⟩, fun _ => rfl, fun _ => rfl,
    fun _ _ _ => ⟨_, rfl, fun j => Memory.read_write _ _ _ j _, rfl⟩⟩

/-! ### The lifecycle operations (R50, R310, R311) -/

/-- Settles O46: RESET is its four writes. -/
theorem resetWritesFourFields : Obligations.ResetWritesFourFields :=
  fun _ => rfl

theorem Ppu.powerOn_register (i : BitVec 3) : Ppu.powerOn.register i = 0 :=
  Vector.getElem_replicate _

/-- Settles O47: the two parts of the block are replaced whole. -/
theorem powerOnRestoresTheResetState : Obligations.PowerOnRestoresTheResetState :=
  fun _ => ⟨_, rfl, rfl, rfl, rfl, Ppu.powerOn_register, rfl, rfl, rfl, rfl, rfl, rfl, rfl, rfl, rfl, rfl, rfl, rfl, rfl,
    rfl, rfl, rfl, rfl, rfl, rfl, rfl, rfl, rfl, rfl⟩

end Sys2Proof.Machine
end
